-- ==== Sys2Proof/Word.lean ====
section
/-! DEFINITION. The widths the register window, the expander buses and the counters use. -/

namespace Sys2Proof

/-- A byte: an IDENT, a host tag, a saturating count. -/
abbrev Byte := BitVec 8

/-- One sixteen-line register of an expander (R93), or a generation (R11). -/
abbrev Half := BitVec 16

/-- A 32-bit register word (00_scope 5.1). -/
abbrev Word := BitVec 32

/-- A byte offset within the 4 KiB register window (00_scope 5.1). -/
abbrev Addr := BitVec 12

/-- One of the sixteen bays (R1). -/
abbrev BayId := Fin 16

/-- One of the two expander buses. -/
abbrev BusId := Fin 2

/-- One of the four notification lines (R162). -/
abbrev LineId := Fin 4

/-- One of the four power profiles (R19). -/
abbrev ProfileId := Fin 4

/-- One of the nineteen record sources, by source index (R159). -/
abbrev SourceId := Fin 19

end Sys2Proof
end

