-- ==== Sys2Proof/Syntax.lean ====
section
/-! DEFINITION. The commands of the block: one constructor for each row of the table of operations
and events. -/

namespace Sys2Proof

/-- The argument fields of a bay command word (R49): the two indicator modes and the two AUX levels,
as the word carries them. -/
structure CommandArgs where
  indP : BitVec 2
  indA : BitVec 2
  aux0 : Bool
  aux1 : Bool
  deriving DecidableEq, Repr

/-- The bus mask of a global command word (R131, R176). -/
structure BusMask where
  bus0 : Bool
  bus1 : Bool
  deriving DecidableEq, Repr

/-- The commands. Each is one whole event (00_scope 5.6). -/
inductive Instr where
  -- reset
  | resetNAssert
  | startUp
  | softReset (word : Word)
  -- Timebase
  | timebaseTick
  -- frames: `bits` are the PDI bits received since the frame's last event (its fall, or its last whole word)
  | pcsNFall
  | pcsNRise (bits : List Bool)
  -- register words
  | registerWrite (addr : Addr) (word : Word)
  | bayConfigurationWrite (bay : BayId) (word : Word)
  | profileWrite (profile : ProfileId) (wordB : Bool) (word : Word)
  | classMapWrite (word : Word)
  | busConfigurationWrite (bus : BusId) (word : Word)
  | routingEntryWrite (source : SourceId) (word : Word)
  | lineControlWrite (line : LineId) (word : Word)
  | takeLineWindow (word : Word)
  | takeAnyWindow (word : Word)
  | overflowClear (word : Word)
  | routeConflictClear (word : Word)
  | portErrorClear (word : Word)
  -- global commands
  | hunt (mask : BusMask) (tag : Byte)
  | busRestart (mask : BusMask) (tag : Byte)
  -- bay commands
  | powerOn (bay : BayId) (tag : Byte) (args : CommandArgs)
  | powerOff (bay : BayId) (tag : Byte) (args : CommandArgs)
  | setInd (bay : BayId) (tag : Byte) (args : CommandArgs)
  | lock (bay : BayId) (tag : Byte) (args : CommandArgs)
  | unlock (bay : BayId) (tag : Byte) (args : CommandArgs)
  | setAux (bay : BayId) (tag : Byte) (args : CommandArgs)
  | clearFault (bay : BayId) (tag : Byte) (args : CommandArgs)
  | refresh (bay : BayId) (tag : Byte) (args : CommandArgs)
  -- expiries of a bay's sequence timer
  | rampTimeExpiry (bay : BayId)
  | rampTimeout (bay : BayId)
  | clkToRstExpiry (bay : BayId)
  | drainStepExpiry (bay : BayId)
  | cooldownExpiry (bay : BayId)
  -- input sensing
  | debounceExpiry (bay : BayId)
  | pollTimerExpiry (bus : BusId)
  | xalertAsserted (bus : BusId)
  | xalertDeasserted (bus : BusId)
  -- bus engines
  | beginTransaction (bus : BusId)
  | outputWriteComplete (bus : BusId)
  | inputReadComplete (bus : BusId) (input output direction : Half)
  | probeAcknowledged (bus : BusId)
  | identReadComplete (bus : BusId) (ident : Byte)
  | setupReadComplete (bus : BusId) (output direction blink rate : Half)
  | forceSafeWriteComplete (bus : BusId)
  | seedingReadComplete (bus : BusId) (input output direction : Half)
  | attemptNack (bus : BusId)
  | attemptDataLineLow (bus : BusId)
  | clockStretchRelease (bus : BusId)
  | clockStretchTimeout (bus : BusId)
  | recoveryPassEnd (bus : BusId) (dataHigh : Bool)
  -- notification lines
  | pulseHighEnd (line : LineId)
  | pulseGapEnd (line : LineId)
  -- bus engines, continued in the table's order
  | clockStretchDetected (bus : BusId)
  -- command words with undefined codes
  | undefinedBayCommand (bay : BayId) (code : BitVec 4) (tag : Byte) (args : CommandArgs)
  | undefinedGlobalCommand (code : BitVec 4) (mask : BusMask) (tag : Byte)
  deriving DecidableEq, Repr

end Sys2Proof
end

