-- ==== Sys2Proof/Machine/State.lean ====
section
/-! DEFINITION. The state of the block, as plain data, and its value right after reset. -/

namespace Sys2Proof.Machine

/-! ## Bay records (01_the_bay_table) -/

/-- The link state of a bay (R2). -/
inductive LinkState where
  | absent | probing | setup | bound | lost
  deriving DecidableEq, Repr

/-- The power state of a bay (R3). -/
inductive PowerState where
  | off | cool | ramp | clock | on | drain | faulted | unknown
  deriving DecidableEq, Repr

/-- The mode of an indicator (R11). -/
inductive IndMode where
  | off | on | slow | fast
  deriving DecidableEq, Repr

/-- Two AUX directions; `true` is output (R4, R10). -/
structure Dirs where
  aux0 : Bool
  aux1 : Bool
  deriving DecidableEq, Repr

/-- The configuration fields of a bay (R4). -/
structure BayConfig where
  managed : Bool
  autoOn : Bool
  latchOff : Bool
  surpriseOff : Bool
  autoInd : Bool
  lockBeforePower : Bool
  auxDir : Dirs
  debounce : Byte
  deriving DecidableEq, Repr

/-- The sampled image of a bay (R9): the sixteen INPUT levels and the time of the read. -/
structure Sample where
  levels : Half
  time : Word
  deriving DecidableEq, Repr

/-- The live inputs of a bay (R9); `true` is asserted. -/
structure Live where
  fault : Bool
  pgood : Bool
  deriving DecidableEq, Repr

/-- The accepted image of a bay (R10). -/
structure Accepted where
  present : Bool
  latchClosed : Bool
  pressed : Bool
  aux0 : Bool
  aux1 : Bool
  moduleClass : Option (BitVec 3)
  deriving DecidableEq, Repr

/-- The debounced view of a read (R76). An AUX line that is an output is not part of the view. -/
structure View where
  present : Bool
  latchClosed : Bool
  pressed : Bool
  aux0 : Option Bool
  aux1 : Option Bool
  deriving DecidableEq, Repr

/-- The phase of a debounce candidate (R77), with the ticks left on the debounce timer in TIMING. -/
inductive CandidatePhase where
  | timing (left : Nat)
  | confirming
  deriving DecidableEq, Repr

/-- The debounce candidate of a bay (R77). -/
structure Candidate where
  view : View
  phase : CandidatePhase
  deriving DecidableEq, Repr

/-- An output image (R11). `released` is a released MRST, `lock` an engaged interlock. -/
structure Image where
  pwrEn : Bool
  clkEn : Bool
  released : Bool
  indP : IndMode
  indA : IndMode
  lock : Bool
  aux0 : Bool
  aux1 : Bool
  deriving DecidableEq, Repr

/-- An output image with the AUX directions and the generation it is written or adopted with: the
confirmed image of a bay (R12), and what a write carries (R114). -/
structure Written where
  image : Image
  dirs : Dirs
  gen : Half
  deriving DecidableEq, Repr

/-- The sequence step within DRAIN (R13). -/
inductive SeqStep where
  | r | c | p
  deriving DecidableEq, Repr

/-- What the sequence timer runs for (R23); in RAMP this holds the mode the timer was started under. -/
inductive SeqPurpose where
  | rampWait | rampTimeout | clkToRst | drainStep | cooldown
  deriving DecidableEq, Repr

/-- A running sequence timer (R18, R23): it expires when no tick is left. -/
structure SeqTimer where
  purpose : SeqPurpose
  left : Nat
  deriving DecidableEq, Repr

/-- The fault kinds of the fault status (R14) and of FAULT records (R144). -/
inductive FaultKind where
  | noFault | fltInput | pgoodLost | rampTimeout | fltInputIdle
  deriving DecidableEq, Repr

/-- The eight bay commands (R49). -/
inductive BayCommand where
  | powerOn | powerOff | setInd | lock | unlock | setAux | clearFault | refresh
  deriving DecidableEq, Repr

/-- The results of bay commands (R50) and of global commands (R176). -/
inductive CommandResult where
  | noResult | accepted | done | aborted | fault | lost
  | badCommand | notBound | busy | badState | noModule | latchOpen | classDenied
  deriving DecidableEq, Repr

/-- The command slot of a bay (R50). -/
structure Slot where
  inProgress : Bool
  code : Option BayCommand
  tag : Byte
  awaited : Option Half
  lastResult : CommandResult
  resultTag : Byte
  deriving DecidableEq, Repr

/-- The power state a setup chain decides (R134, R135). -/
inductive Decided where
  | on | off | cool
  deriving DecidableEq, Repr

/-- What a setup chain holds from its SETUP_READ to its end (R133, R134, R135; log entry 16). -/
structure Chain where
  dirs : Dirs
  decided : Decided
  deriving DecidableEq, Repr

/-- A bay record (R1). -/
structure Bay where
  link : LinkState
  power : PowerState
  config : BayConfig
  sampled : Option Sample
  live : Live
  accepted : Accepted
  auxDirs : Dirs
  candidate : Option Candidate
  target : Image
  targetGen : Half
  confirmed : Option Written
  profile : Option ProfileId
  step : Option SeqStep
  stepGen : Option Half
  timer : Option SeqTimer
  pendingUp : Bool
  idleNote : Bool
  faultKind : FaultKind
  faultCount : Byte
  failures : Byte
  slot : Slot
  chain : Option Chain
  deriving DecidableEq, Repr

/-! ## Profile Table and Class Map (02_power_sequencing) -/

/-- The RAMP_MODE of a profile (R19). -/
inductive RampMode where
  | fixed | pgood
  deriving DecidableEq, Repr

/-- A power profile (R19). -/
structure Profile where
  rampMode : RampMode
  rampTime : BitVec 10
  clkToRst : BitVec 10
  drainStep : BitVec 8
  cooldown : BitVec 12
  deriving DecidableEq, Repr

/-! ## Expander Bus Engines and Discovery Unit (06, 07) -/

/-- The steps of the setup chain (R108). -/
inductive SetupStep where
  | identRead | setupRead | forceSafe | seedingRead
  deriving DecidableEq, Repr

/-- The kind of a transaction, with the step of a SETUP entry (R108). -/
inductive TxKind where
  | probe
  | setup (step : SetupStep)
  | inputRead
  | outputWrite
  deriving DecidableEq, Repr

/-- The waiters of an INPUT_READ entry (R108). -/
structure Waiters where
  refresh : Bool
  debounce : Bool
  sweep : Bool
  deriving DecidableEq, Repr

/-- A queue entry (R108). `carried` is what a write carries: taken at its begin for an OUTPUT_WRITE
(R114), given by the Discovery Unit for a force-safe step (R135), absent otherwise. -/
structure Entry where
  kind : TxKind
  bay : BayId
  urgent : Bool
  waiters : Waiters
  carried : Option Written
  deriving DecidableEq, Repr

/-- A transaction in flight or held. `ignored` says that its bay was released from management after it
began (R8, R115; log entry 16). -/
structure Tx where
  entry : Entry
  ignored : Bool
  deriving DecidableEq, Repr

/-- The speed of a bus (R106). -/
inductive Speed where
  | khz100 | khz400
  deriving DecidableEq, Repr

/-- The bus state (R105) with what the engine holds in it (R107): the transaction in flight or held,
its attempt number, the speed of the attempt or pass on the wire (R106), the clock-stretch timeout
(R119) and the consecutive failed passes (R120). -/
inductive BusState where
  | idle
  | active (tx : Tx) (attempt : Nat) (speed : Speed) (stretch : Option Nat)
  | recovering (tx : Tx) (attempt : Nat) (passes : Nat) (speed : Speed) (stretch : Option Nat)
  | failed
  deriving DecidableEq, Repr

/-- The configuration of a bus (R106). -/
structure BusConfig where
  enable : Bool
  speed : Speed
  retryLimit : BitVec 3
  pollInterval : Byte
  deriving DecidableEq, Repr

/-- The link state a hunted bay had when the hunt reached it (R127). -/
inductive Origin where
  | absent | lost
  deriving DecidableEq, Repr

/-- A running hunt (R127). -/
structure Hunt where
  hunted : List (BayId × Origin)
  found : Nat
  bound : Nat
  deriving DecidableEq, Repr

/-- One bus: its engine (06), its sweep and poll timer (04) and its hunt (07). `sweep` is the set of
waiting bays of a running sweep (R87). -/
structure Engine where
  bus : BusState
  config : BusConfig
  queue : List Entry
  sweep : Option (List BayId)
  poll : Option Nat
  hunt : Option Hunt
  deriving DecidableEq, Repr

/-! ## Event Queue (08_the_event_queue) -/

/-- The source of a record (R143). -/
inductive Source where
  | bay (b : BayId)
  | bus (n : BusId)
  | part
  deriving DecidableEq, Repr

/-- The cause of a STATE record (R144). -/
inductive StateCause where
  | command | auto | fault | adopt | link
  deriving DecidableEq, Repr

/-- The cause of a LINK record (R144). -/
inductive LinkCause where
  | bound | mismatch | noAck | bus | restart | gone | foreign | released
  deriving DecidableEq, Repr

/-- The ten kinds of record (R143). -/
inductive RecordKind where
  | presence | latch | button | aux | state | link | command | fault | bus | huntDone
  deriving DecidableEq, Repr

/-- The DETAIL of a record, by kind (R144). A BUS record carries FAILED or IDLE. -/
inductive Detail where
  | presence (present : Bool) (moduleClass : Option (BitVec 3))
  | latch (closed : Bool)
  | button
  | aux (aux0 aux1 : Bool)
  | state (power : PowerState) (cause : StateCause)
  | link (link : LinkState) (cause : LinkCause)
  | command (code : BayCommand) (tag : Byte) (result : CommandResult)
  | fault (kind : FaultKind)
  | bus (failed : Bool)
  | huntDone (bus : BusId) (found bound : Nat)
  deriving DecidableEq, Repr

/-- An event record (R143). `line` is `none` for the tag NONE. -/
structure Record where
  seq : Half
  source : Source
  line : Option LineId
  time : Word
  detail : Detail
  count : Byte
  missed : Option Byte
  deriving DecidableEq, Repr

/-- The Event Queue (R145): records front first, sequence counter, missed counts by source index,
OVERFLOW, and the five take windows (R152). -/
structure EventQueue where
  records : List Record
  seqCounter : Half
  missed : Vector Byte 19
  overflow : Bool
  windows : Vector (Option Record) 5
  deriving DecidableEq, Repr

/-! ## Notification Router (09) -/

/-- A routing entry (R159). `line` is `none` for NONE. -/
structure Route where
  line : Option LineId
  excl : Bool
  deriving DecidableEq, Repr

/-- The phase of a line's pulse state (R164). -/
inductive PulsePhase where
  | quiet | high | gap
  deriving DecidableEq, Repr

/-- A line control (R162) with its pulse state (R164). `pulse` is MODE PULSE, `activeHigh` POLARITY. -/
structure Line where
  enable : Bool
  pulse : Bool
  activeHigh : Bool
  phase : PulsePhase
  owed : Bool
  deriving DecidableEq, Repr

/-! ## Register Port (10_the_register_port) -/

/-- The progress of the frame being shifted (R169, R172, R177, R180): PCS_N high; waiting for PCS_N to
rise without taking anything; discarding the rest of the frame that carried a soft reset; or in a
frame, with the address of its next data word once a word has been taken. -/
inductive Frame where
  | closed
  | waiting
  | discarding
  | opened (next : Option Addr)
  deriving DecidableEq, Repr

/-- The port error flags (R175). -/
structure PortFlags where
  frameShort : Bool
  badAddress : Bool
  readOnlyWrite : Bool
  configRefused : Bool
  deriving DecidableEq, Repr

/-- The Register Port's own state (R169, R173, R175). -/
structure Port where
  frame : Frame
  statusByte : Byte
  flags : PortFlags
  deriving DecidableEq, Repr

/-- The outcome of the last global command (R176). -/
structure GlobalStatus where
  code : BitVec 4
  result : CommandResult
  tag : Byte
  deriving DecidableEq, Repr

/-! ## The whole block -/

/-- The state of the block. `pending` is the queue of waiting commands, first in first out. `classMap`
holds `none` for DENY (R21). `alerts` are the levels of XALERT0_N and XALERT1_N, `true` asserted (R87). -/
structure State where
  pending : List Instr
  resetLow : Bool
  alerts : Vector Bool 2
  millis : Word
  bays : Vector Bay 16
  profiles : Vector Profile 4
  classMap : Vector (Option ProfileId) 8
  engines : Vector Engine 2
  events : EventQueue
  routing : Vector Route 19
  routeConflict : Bool
  lines : Vector Line 4
  globalStatus : GlobalStatus
  port : Port
  deriving DecidableEq, Repr

/-! ## Why a step can stop -/

/-- The block never stops with a fault: every refusal the manual names is a flag or a result in State,
after which the part goes on. The type has no constructor. -/
inductive Fault
  deriving DecidableEq, Repr

/-- Refusals. -/
inductive Refusal where
  /-- Raised by `exec` alone, for a command without a meaning yet; safe. No arm raises it now. -/
  | notModelled (mnemonic : String)
  deriving DecidableEq, Repr

/-! ## Reset values -/

/-- Both AUX lines input (section 1.9). -/
def Dirs.inputs : Dirs := { aux0 := false, aux1 := false }

/-- The reset value of the target image (R11): all off. -/
def Image.allOff : Image :=
  { pwrEn := false, clkEn := false, released := false, indP := .off, indA := .off, lock := false,
    aux0 := false, aux1 := false }

/-- The reset value of the command slot (R50). -/
def Slot.reset : Slot :=
  { inProgress := false, code := none, tag := 0, awaited := none, lastResult := .noResult,
    resultTag := 0 }

/-- The reset value of the configuration fields (R4). -/
def BayConfig.reset : BayConfig :=
  { managed := true, autoOn := false, latchOff := true, surpriseOff := true, autoInd := true,
    lockBeforePower := false, auxDir := Dirs.inputs, debounce := 16 }

/-- The reset value of a bay record (section 1.9). -/
def Bay.reset : Bay :=
  { link := .absent, power := .unknown, config := BayConfig.reset, sampled := none,
    live := { fault := false, pgood := false },
    accepted := { present := false, latchClosed := false, pressed := false, aux0 := false, aux1 := false,
                  moduleClass := none },
    auxDirs := Dirs.inputs, candidate := none, target := Image.allOff, targetGen := 0,
    confirmed := none, profile := none, step := none, stepGen := none, timer := none,
    pendingUp := false, idleNote := false, faultKind := .noFault, faultCount := 0, failures := 0,
    slot := Slot.reset, chain := none }

/-- The reset value of a profile (R19). -/
def Profile.reset : Profile :=
  { rampMode := .fixed, rampTime := 120, clkToRst := 50, drainStep := 2, cooldown := 500 }

/-- The reset value of a bus (R105, R106, R108, R127); start-up starts its poll timer and its hunt. -/
def Engine.reset : Engine :=
  { bus := .idle, config := { enable := true, speed := .khz100, retryLimit := 3, pollInterval := 100 },
    queue := [], sweep := none, poll := none, hunt := none }

/-- The Event Queue after reset (R158). -/
def EventQueue.reset : EventQueue :=
  { records := [], seqCounter := 0, missed := Vector.replicate 19 0, overflow := false,
    windows := Vector.replicate 5 none }

/-- The reset value of a line control and its pulse state (R162, R164). -/
def Line.reset : Line :=
  { enable := false, pulse := false, activeHigh := false, phase := .quiet, owed := false }

/-- Port error flags after reset (R175). -/
def PortFlags.clear : PortFlags :=
  { frameShort := false, badAddress := false, readOnlyWrite := false, configRefused := false }

/-- The block held in reset: RESET_N low, every field at its reset value (section 1.9, R17, R19, R21,
R106, R126, R158, R159, R162, R175, R176). PCS_N high, the alerts deasserted and the status byte 0 are
DESIGN CHOICES (log entry 7). -/
def State.reset : State :=
  { pending := [], resetLow := true, alerts := Vector.replicate 2 false, millis := 0,
    bays := Vector.replicate 16 Bay.reset, profiles := Vector.replicate 4 Profile.reset,
    classMap := Vector.replicate 8 (some 0), engines := Vector.replicate 2 Engine.reset,
    events := EventQueue.reset,
    routing := Vector.replicate 19 { line := none, excl := false }, routeConflict := false,
    lines := Vector.replicate 4 Line.reset,
    globalStatus := { code := 0, result := .noResult, tag := 0 },
    port := { frame := .closed, statusByte := 0, flags := PortFlags.clear } }

end Sys2Proof.Machine
end

