-- ==== Sys2Proof/Machine/Operands.lean ====
section
/-! DEFINITION. The operand forms: the layouts of register words (10_the_register_port, register map
and layouts) and the encoding of output images in the expander's registers (05, R96 to R99). -/

namespace Sys2Proof.Machine

/-! ## Fields of a word -/

/-- The field of `len` bits of a word that starts at bit `lo`. -/
def fieldOf (w : Word) (lo len : Nat) : BitVec len := w.extractLsb' lo len

/-- Bit `i` of a word. -/
def bitOf (w : Word) (i : Nat) : Bool := w.getLsbD i

/-- A word from its fields, each given by its lowest bit and its value. Bits that the layout does not name
read 0: R174 says so of read/write and write-only words, and the reset values of the register map show it of
the others at reset; that it holds of a read-only or write-1-to-clear word at every time is the model's choice
(log entry 23). -/
def packWord : List (Nat × Nat) → Word
  | [] => 0
  | (lo, v) :: rest => (BitVec.ofNat 32 v <<< lo) ||| packWord rest

/-- The value of bits shifted in most significant bit first (R169). -/
def shiftedIn (n : Nat) (bits : List Bool) : BitVec n :=
  bits.foldl (fun v b => v <<< 1 ||| if b then 1 else 0) 0

/-- A flag as the value of a one-bit field. -/
def flagNat (b : Bool) : Nat := if b then 1 else 0

/-! ## Codes (section 10.5, Codes) -/

def LinkState.code : LinkState → Nat
  | .absent => 0 | .probing => 1 | .setup => 2 | .bound => 3 | .lost => 4

def PowerState.code : PowerState → Nat
  | .off => 0 | .cool => 1 | .ramp => 2 | .clock => 3 | .on => 4 | .drain => 5 | .faulted => 6
  | .unknown => 7

def IndMode.code : IndMode → Nat
  | .off => 0 | .on => 1 | .slow => 2 | .fast => 3

/-- Every value of an indicator argument names a mode (R52). -/
def IndMode.ofBits (b : BitVec 2) : IndMode :=
  if b = 0 then .off else if b = 1 then .on else if b = 2 then .slow else .fast

def BayCommand.code : BayCommand → Nat
  | .powerOn => 1 | .powerOff => 2 | .setInd => 3 | .lock => 4 | .unlock => 5 | .setAux => 6
  | .clearFault => 7 | .refresh => 8

/-- The bay command a code names, if it is one of the eight (R52). -/
def BayCommand.ofCode (c : BitVec 4) : Option BayCommand :=
  if c = 1 then some .powerOn else if c = 2 then some .powerOff else if c = 3 then some .setInd
  else if c = 4 then some .lock else if c = 5 then some .unlock else if c = 6 then some .setAux
  else if c = 7 then some .clearFault else if c = 8 then some .refresh else none

def CommandResult.code : CommandResult → Nat
  | .noResult => 0 | .accepted => 1 | .done => 2 | .aborted => 3 | .fault => 4 | .lost => 5
  | .badCommand => 6 | .notBound => 7 | .busy => 8 | .badState => 9 | .noModule => 10
  | .latchOpen => 11 | .classDenied => 12

def SeqStep.code : Option SeqStep → Nat
  | none => 0 | some .r => 1 | some .c => 2 | some .p => 3

def FaultKind.code : FaultKind → Nat
  | .noFault => 0 | .fltInput => 1 | .pgoodLost => 2 | .rampTimeout => 3 | .fltInputIdle => 4

def StateCause.code : StateCause → Nat
  | .command => 0 | .auto => 1 | .fault => 2 | .adopt => 3 | .link => 4

def LinkCause.code : LinkCause → Nat
  | .bound => 0 | .mismatch => 1 | .noAck => 2 | .bus => 3 | .restart => 4 | .gone => 5
  | .foreign => 6 | .released => 7

def RecordKind.code : RecordKind → Nat
  | .presence => 0 | .latch => 1 | .button => 2 | .aux => 3 | .state => 4 | .link => 5
  | .command => 6 | .fault => 7 | .bus => 8 | .huntDone => 9

def BusState.code : BusState → Nat
  | .idle => 0 | .active .. => 1 | .recovering .. => 2 | .failed => 3

def TxKind.code : TxKind → Nat
  | .probe => 0 | .setup _ => 1 | .inputRead => 2 | .outputWrite => 3

/-- The LINE code: 0 to 3 a line, 4 NONE. -/
def lineCode : Option LineId → Nat
  | some k => k.val
  | none => 4

def Speed.code : Speed → Nat
  | .khz100 => 0 | .khz400 => 1

def PulsePhase.code : PulsePhase → Nat
  | .quiet => 0 | .high => 1 | .gap => 2

/-- The source index of a source (R159). -/
def Source.index : Source → SourceId
  | .bay b => ⟨b.val, by omega⟩
  | .bus n => ⟨16 + n.val, by omega⟩
  | .part => 18

/-- The source of a source index (R159). -/
def Source.ofIndex (i : SourceId) : Source :=
  if h : i.val < 16 then .bay ⟨i.val, h⟩ else if i = 16 then .bus 0 else if i = 17 then .bus 1 else .part

/-! ## Written words -/

/-- The bay configuration word (R4). -/
def BayConfig.ofWord (w : Word) : BayConfig :=
  { managed := bitOf w 0, autoOn := bitOf w 1, latchOff := bitOf w 2, surpriseOff := bitOf w 3,
    autoInd := bitOf w 4, lockBeforePower := bitOf w 5, auxDir := { aux0 := bitOf w 6, aux1 := bitOf w 7 },
    debounce := fieldOf w 8 8 }

def BayConfig.toWord (c : BayConfig) : Word :=
  packWord [(0, flagNat c.managed), (1, flagNat c.autoOn), (2, flagNat c.latchOff),
    (3, flagNat c.surpriseOff), (4, flagNat c.autoInd), (5, flagNat c.lockBeforePower),
    (6, flagNat c.auxDir.aux0), (7, flagNat c.auxDir.aux1), (8, c.debounce.toNat)]

/-- Profile word A sets RAMP_MODE, RAMP_TIME and CLK_TO_RST (R19). -/
def Profile.withWordA (p : Profile) (w : Word) : Profile :=
  { p with rampMode := if bitOf w 0 then .pgood else .fixed, rampTime := fieldOf w 1 10,
           clkToRst := fieldOf w 16 10 }

/-- Profile word B sets DRAIN_STEP and COOLDOWN (R19). -/
def Profile.withWordB (p : Profile) (w : Word) : Profile :=
  { p with drainStep := fieldOf w 0 8, cooldown := fieldOf w 16 12 }

def Profile.wordA (p : Profile) : Word :=
  packWord [(0, flagNat (p.rampMode = .pgood)), (1, p.rampTime.toNat), (16, p.clkToRst.toNat)]

def Profile.wordB (p : Profile) : Word :=
  packWord [(0, p.drainStep.toNat), (16, p.cooldown.toNat)]

/-- One class map entry as written (R21): a profile, DENY, or a value that names neither. -/
def classEntryOf (v : BitVec 4) : Option (Option ProfileId) :=
  if h : v.toNat < 4 then some (some ⟨v.toNat, h⟩) else if v = 4 then some none else none

/-- The field of class `c` in the class map word. -/
def classField (w : Word) (c : Nat) : BitVec 4 := fieldOf w (4 * c) 4

/-- The eight entries of a class map word, if every one is defined (R21). -/
def classMapOf (w : Word) : Option (Vector (Option ProfileId) 8) :=
  match classEntryOf (classField w 0), classEntryOf (classField w 1), classEntryOf (classField w 2),
        classEntryOf (classField w 3), classEntryOf (classField w 4), classEntryOf (classField w 5),
        classEntryOf (classField w 6), classEntryOf (classField w 7) with
  | some e0, some e1, some e2, some e3, some e4, some e5, some e6, some e7 =>
    some #v[e0, e1, e2, e3, e4, e5, e6, e7]
  | _, _, _, _, _, _, _, _ => none

def classEntryCode : Option ProfileId → Nat
  | some p => p.val
  | none => 4

def classMapWord (m : Vector (Option ProfileId) 8) : Word :=
  packWord [(0, classEntryCode m[0]), (4, classEntryCode m[1]), (8, classEntryCode m[2]),
    (12, classEntryCode m[3]), (16, classEntryCode m[4]), (20, classEntryCode m[5]),
    (24, classEntryCode m[6]), (28, classEntryCode m[7])]

/-- The SPEED code: 0 and 1 name a speed, 2 and 3 none (R106). -/
def Speed.ofBits (b : BitVec 2) : Option Speed :=
  if b = 0 then some .khz100 else if b = 1 then some .khz400 else none

/-- The bus configuration word, unless its SPEED is undefined (R106). -/
def BusConfig.ofWord (w : Word) : Option BusConfig :=
  (Speed.ofBits (fieldOf w 4 2)).map fun sp =>
    { enable := bitOf w 0, speed := sp, retryLimit := fieldOf w 8 3, pollInterval := fieldOf w 16 8 }

def BusConfig.toWord (c : BusConfig) : Word :=
  packWord [(0, flagNat c.enable), (4, c.speed.code), (8, c.retryLimit.toNat), (16, c.pollInterval.toNat)]

/-- The routing entry word, unless its LINE code is undefined or it names NONE with EXCL set (R160,
case 1). -/
def Route.ofWord (w : Word) : Option Route :=
  let line := fieldOf w 0 3
  let excl := bitOf w 4
  if h : line.toNat < 4 then some { line := some ⟨line.toNat, h⟩, excl := excl }
  else if line = 4 ∧ excl = false then some { line := none, excl := false }
  else none

def Route.toWord (r : Route) : Word := packWord [(0, lineCode r.line), (4, flagNat r.excl)]

/-- The bay command word (section 10.5): code, tag and arguments. -/
def bayCommandWord (code : BitVec 4) (tag : Byte) (args : CommandArgs) : Word :=
  packWord [(0, code.toNat), (8, tag.toNat), (16, args.indP.toNat), (18, args.indA.toNat),
    (20, flagNat args.aux0), (21, flagNat args.aux1)]

def commandCodeOf (w : Word) : BitVec 4 := fieldOf w 0 4

def commandTagOf (w : Word) : Byte := fieldOf w 8 8

def commandArgsOf (w : Word) : CommandArgs :=
  { indP := fieldOf w 16 2, indA := fieldOf w 18 2, aux0 := bitOf w 20, aux1 := bitOf w 21 }

/-- The global command word (section 10.5). -/
def globalCommandWord (code : BitVec 4) (mask : BusMask) (tag : Byte) : Word :=
  packWord [(0, code.toNat), (4, flagNat mask.bus0), (5, flagNat mask.bus1), (8, tag.toNat)]

def busMaskOf (w : Word) : BusMask := { bus0 := bitOf w 4, bus1 := bitOf w 5 }

/-! ## Command arguments (R52) -/

/-- The arguments a command does not use are zero (R52). -/
def BayCommand.argsWellFormed (c : BayCommand) (a : CommandArgs) : Bool :=
  (c = .setInd || (a.indP = 0 && a.indA = 0)) && (c = .setAux || (!a.aux0 && !a.aux1))

/-! ## Output images in the expander's registers (R96 to R98) -/

/-- The four register pairs of an expander that hold its output side (R93). -/
structure Regs where
  output : Half
  direction : Half
  blink : Half
  rate : Half
  deriving DecidableEq, Repr

/-- A register from its lines, line 0 first; the lines left out are 0. -/
def ofLines : List Bool → Half
  | [] => 0
  | b :: rest => (ofLines rest <<< 1) ||| (if b then 1 else 0)

/-- The required DIRECTION for two AUX directions (R96). -/
def requiredDirection (d : Dirs) : Half := ofLines [true, true, true, true, true, true, d.aux0, d.aux1]

/-- The OUTPUT, BLINK and RATE bits of an indicator mode (R97). -/
def IndMode.outputBit (m : IndMode) : Bool := m ≠ .off

def IndMode.blinkBit (m : IndMode) : Bool := m = .slow || m = .fast

def IndMode.rateBit (m : IndMode) : Bool := m = .fast

/-- The encoding of an output image with its AUX directions (R97). -/
def Image.encode (i : Image) (d : Dirs) : Regs :=
  { output := ofLines [i.pwrEn, i.clkEn, i.released, i.indP.outputBit, i.indA.outputBit, i.lock,
      i.aux0 && d.aux0, i.aux1 && d.aux1],
    direction := requiredDirection d,
    blink := ofLines [false, false, false, i.indP.blinkBit, i.indA.blinkBit],
    rate := ofLines [false, false, false, i.indP.rateBit, i.indA.rateBit] }

/-- The mode of an indicator line in a readback (R98). -/
def IndMode.decode (output blink rate : Bool) : IndMode :=
  if blink then (if rate then .fast else .slow) else (if output then .on else .off)

/-- The decoding of a readback (R98). -/
def Regs.decode (r : Regs) : Image :=
  { pwrEn := r.output.getLsbD 0, clkEn := r.output.getLsbD 1, released := r.output.getLsbD 2,
    indP := IndMode.decode (r.output.getLsbD 3) (r.blink.getLsbD 3) (r.rate.getLsbD 3),
    indA := IndMode.decode (r.output.getLsbD 4) (r.blink.getLsbD 4) (r.rate.getLsbD 4),
    lock := r.output.getLsbD 5, aux0 := r.output.getLsbD 6, aux1 := r.output.getLsbD 7 }

/-- A readback is consistent with the chain directions when it encodes back to its own bytes (R133). -/
def Regs.consistent (r : Regs) (d : Dirs) : Bool := r.decode.encode d = r

/-- The law of R12: a released MRST implies CLK_EN on, and CLK_EN on implies PWR_EN on. -/
def Image.lawful (i : Image) : Bool := (!i.released || i.clkEn) && (!i.clkEn || i.pwrEn)

/-! ## Input levels (R74, R76, R86) -/

/-- The live inputs of a read (R74). -/
def Live.ofLevels (l : Half) : Live := { fault := !l.getLsbD 11, pgood := l.getLsbD 12 }

/-- The debounced view of a read, for the effective AUX directions (R76). -/
def View.ofLevels (l : Half) (d : Dirs) : View :=
  { present := !l.getLsbD 8, latchClosed := !l.getLsbD 9, pressed := !l.getLsbD 10,
    aux0 := if d.aux0 then none else some (l.getLsbD 6),
    aux1 := if d.aux1 then none else some (l.getLsbD 7) }

/-- The module class of a read, CLS0 least significant (R86). -/
def classOfLevels (l : Half) : BitVec 3 := l.extractLsb' 13 3

/-- The view equals the accepted image in every field of the view (R76). -/
def View.agrees (v : View) (a : Accepted) : Bool :=
  v.present = a.present && v.latchClosed = a.latchClosed && v.pressed = a.pressed &&
    v.aux0.getD a.aux0 = a.aux0 && v.aux1.getD a.aux1 = a.aux1

/-- The accepted image after the view has been accepted; an AUX line outside the view keeps its value,
and the class is latched when presence becomes PRESENT and dropped when it becomes ABSENT (R83, R86). -/
def View.accept (v : View) (a : Accepted) (levels : Half) : Accepted :=
  { present := v.present, latchClosed := v.latchClosed, pressed := v.pressed,
    aux0 := v.aux0.getD a.aux0, aux1 := v.aux1.getD a.aux1,
    moduleClass := if v.present = a.present then a.moduleClass
                   else if v.present then some (classOfLevels levels) else none }

/-- The accepted image seeded at binding, without debounce (R136 step 2). -/
def View.seed (v : View) (a : Accepted) (levels : Half) : Accepted :=
  { present := v.present, latchClosed := v.latchClosed, pressed := v.pressed,
    aux0 := v.aux0.getD a.aux0, aux1 := v.aux1.getD a.aux1,
    moduleClass := if v.present then some (classOfLevels levels) else none }

/-! ## Transactions on the wire (R99) -/

/-- One element of a transaction on the wire (R99): `send` is a byte from the part, followed by the expander's
acknowledge bit; `recv` is a data byte from the expander, followed by the part's, `true` to acknowledge. -/
inductive WireItem where
  | start
  | send (b : Byte)
  | repeatedStart
  | recv (ack : Bool)
  | stop
  deriving DecidableEq, Repr

/-- The expander address of a bay (R1). -/
def expanderAddress (b : BayId) : BitVec 7 := BitVec.ofNat 7 (0x58 + b.val % 8)

/-- The address byte: the 7-bit address, then the direction bit, 0 for write and 1 for read (R99). -/
def addressByte (b : BayId) (read : Bool) : Byte := (expanderAddress b).append (BitVec.ofBool read)

/-- The low and high byte of a register pair. -/
def lowByte (h : Half) : Byte := h.extractLsb' 0 8

def highByte (h : Half) : Byte := h.extractLsb' 8 8

/-- The eight bytes of an OUTPUT_WRITE, in the order of R99. -/
def Regs.bytes (r : Regs) : List Byte :=
  [lowByte r.output, highByte r.output, lowByte r.direction, highByte r.direction,
   lowByte r.blink, highByte r.blink, lowByte r.rate, highByte r.rate]

/-- A read of `n + 1` bytes from index `i` on: the part acknowledges each data byte except the last (R99). -/
def readShape (b : BayId) (i : Byte) (n : Nat) : List WireItem :=
  [.start, .send (addressByte b false), .send i, .repeatedStart, .send (addressByte b true)] ++
    List.replicate n (.recv true) ++ [.recv false, .stop]

/-- A write of the carried image from index 0x02 on. -/
def writeShape (b : BayId) (c : Written) : List WireItem :=
  [.start, .send (addressByte b false), .send 0x02] ++ ((c.image.encode c.dirs).bytes.map .send) ++ [.stop]

/-- The shape of an attempt of an entry (R99); a write that carries nothing has none. -/
def Entry.shape (e : Entry) : List WireItem :=
  match e.kind with
  | .probe => [.start, .send (addressByte e.bay false), .stop]
  | .setup .identRead => readShape e.bay 0x0F 0
  | .setup .setupRead => readShape e.bay 0x02 7
  | .setup .forceSafe => (e.carried.map (writeShape e.bay)).getD []
  | .setup .seedingRead => readShape e.bay 0x00 5
  | .inputRead => readShape e.bay 0x00 5
  | .outputWrite => (e.carried.map (writeShape e.bay)).getD []

end Sys2Proof.Machine
end

