-- ==== Sys2Proof/Machine/Flags.lean ====
section
/-! DEFINITION. Flags and counts: saturating counts, generations, per-line counts, the port error flags
and the status byte, line assertion and pulse causes. -/

namespace Sys2Proof.Machine

/-! ## Counts and generations -/

/-- A saturating count stays at 255 (00_scope 5.5). -/
def satInc (c : Byte) : Byte := if c = 255 then c else c + 1

/-- Generation `g` is reached in a confirmed image (R12). -/
def genReached (confirmed : Option Written) (g : Half) : Bool :=
  match confirmed with
  | none => false
  | some c => decide ((c.gen - g).toNat < 32768)

/-- Generation `g` is reached on the bay (R12). -/
def Bay.reached (x : Bay) (g : Half) : Bool := genReached x.confirmed g

/-- The bay's step generation is present and reached (R22). -/
def Bay.stepReached (x : Bay) : Bool :=
  match x.stepGen with
  | none => false
  | some g => x.reached g

/-- The slot holds command `c` in progress (R50). -/
def Slot.runs (sl : Slot) (c : BayCommand) : Bool := sl.inProgress && sl.code = some c

/-! ## Event Queue -/

/-- The kind of a record (R143), by its DETAIL. -/
def Detail.kind : Detail → RecordKind
  | .presence .. => .presence
  | .latch _ => .latch
  | .button => .button
  | .aux .. => .aux
  | .state .. => .state
  | .link .. => .link
  | .command .. => .command
  | .fault _ => .fault
  | .bus _ => .bus
  | .huntDone .. => .huntDone

/-- The four kinds that coalesce (R147). -/
def RecordKind.coalesces : RecordKind → Bool
  | .presence | .latch | .button | .aux => true
  | _ => false

/-- The per-line count of a tag (R157); `none` is the tag NONE. -/
def EventQueue.lineCount (q : EventQueue) (tag : Option LineId) : Nat :=
  q.records.countP (fun r => r.line = tag)

/-! ## Port error flags and status byte -/

/-- PORT_ERROR is the OR of the four flags (R175). -/
def PortFlags.any (f : PortFlags) : Bool :=
  f.frameShort || f.badAddress || f.readOnlyWrite || f.configRefused

/-- Bits written 1 clear the flags in their positions (R174, R175; Port status layout). -/
def PortFlags.clearedBy (f : PortFlags) (w : Word) : PortFlags :=
  { frameShort := f.frameShort && !bitOf w 0, badAddress := f.badAddress && !bitOf w 1,
    readOnlyWrite := f.readOnlyWrite && !bitOf w 2, configRefused := f.configRefused && !bitOf w 3 }

def State.setFrameShort (s : State) : State :=
  { s with port := { s.port with flags := { s.port.flags with frameShort := true } } }

def State.setBadAddress (s : State) : State :=
  { s with port := { s.port with flags := { s.port.flags with badAddress := true } } }

def State.setReadOnlyWrite (s : State) : State :=
  { s with port := { s.port with flags := { s.port.flags with readOnlyWrite := true } } }

/-- CONFIG_REFUSED is set by a refused write (R175). -/
def State.setConfigRefused (s : State) : State :=
  { s with port := { s.port with flags := { s.port.flags with configRefused := true } } }

/-- The status byte as the falling edge of PCS_N takes it (R173). -/
def State.statusNow (s : State) : Byte :=
  let pendingOn (k : LineId) : Nat := flagNat (decide (0 < s.events.lineCount (some k)))
  BitVec.ofNat 8
    (flagNat (!s.events.records.isEmpty) * 128 + flagNat s.events.overflow * 64 + pendingOn 3 * 32 +
      pendingOn 2 * 16 + pendingOn 1 * 8 + pendingOn 0 * 4 + flagNat s.port.flags.any * 2)

/-! ## Notification lines -/

/-- The line is enabled in PULSE mode (R165). -/
def Line.pulsing (l : Line) : Bool := l.enable && l.pulse

/-- A pulse cause, acted on by the line's phase (R165). -/
def Line.cause (l : Line) : Line :=
  if l.pulsing then
    match l.phase with
    | .quiet => { l with phase := .high }
    | .high => { l with owed := true }
    | .gap => { l with owed := true }
  else l

/-- The line is asserted (R162, R163, R164; log entry 15). -/
def Line.asserted (l : Line) (count : Nat) : Bool :=
  l.enable && (if l.pulse then l.phase = .high else 0 < count)

/-- Line `k` is asserted. -/
def State.lineAsserted (s : State) (k : LineId) : Bool :=
  (s.lines[k]).asserted (s.events.lineCount (some k))

/-- The level of pin NOTIFYk: `true` is high (R162). -/
def State.notifyPin (s : State) (k : LineId) : Bool :=
  s.lineAsserted k == (s.lines[k]).activeHigh

/-- The Router's answer, at the end of an event, to the appends the event has made: each line in PULSE
mode to which records were added takes one cause (R165; log entry 21). -/
def State.noticeAppends (s t : State) : State :=
  { t with lines := Vector.ofFn fun k : Fin 4 =>
      if s.events.lineCount (some k) < t.events.lineCount (some k) then (t.lines[k]).cause else t.lines[k] }

end Sys2Proof.Machine
end

