-- ==== Sys2Proof/Machine/Ops.lean ====
section
/-! DEFINITION. The shared operations over the records of the block: bay records, bus queues, the Event
Queue, sweeps and hunts. -/

namespace Sys2Proof.Machine

/-! ## Access -/

/-- Bay b sits on bus ⌊b/8⌋ (R1). -/
def busOf (b : BayId) : BusId := if b.val < 8 then 0 else 1

/-- The bays of a bus, in ascending bay number. -/
def baysOf (n : BusId) : List BayId :=
  if n = 0 then [0, 1, 2, 3, 4, 5, 6, 7] else [8, 9, 10, 11, 12, 13, 14, 15]

def State.bay (s : State) (b : BayId) : Bay := s.bays[b]

def State.engine (s : State) (n : BusId) : Engine := s.engines[n]

def State.modifyBay (s : State) (b : BayId) (f : Bay → Bay) : State :=
  { s with bays := s.bays.set b (f s.bays[b]) }

def State.modifyEngine (s : State) (n : BusId) (f : Engine → Engine) : State :=
  { s with engines := s.engines.set n (f s.engines[n]) }

def State.modifyLine (s : State) (k : LineId) (f : Line → Line) : State :=
  { s with lines := s.lines.set k (f s.lines[k]) }

/-- The transaction in flight or held by an engine (R107). -/
def BusState.current : BusState → Option Tx
  | .active tx _ _ _ => some tx
  | .recovering tx _ _ _ _ => some tx
  | _ => none

/-- Marks the transaction in flight or held as ignored (R8, R115). -/
def BusState.ignore : BusState → BusState
  | .active tx a sp st => .active { tx with ignored := true } a sp st
  | .recovering tx a p sp st => .recovering { tx with ignored := true } a p sp st
  | b => b

/-! ## Enqueue (R146 to R149) -/

/-- The first value from `c` on, modulo 65536, that is not used; the second argument bounds the search
(R146). -/
def freshSeq (used : List Half) : Nat → Half → Half
  | 0, c => c
  | n + 1, c => if c ∈ used then freshSeq used n (c + 1) else c

/-- An untaken record that a new record of source `src` coalesces into (R147). -/
def Record.absorbs (r : Record) (src : Source) (d : Detail) : Bool :=
  d.kind.coalesces && r.source = src && r.detail.kind = d.kind

/-- The three stages of an enqueue: coalesce (R147), append (R148) or drop (R149). -/
def EventQueue.enqueue (q : EventQueue) (tag : Option LineId) (now : Word) (src : Source) (d : Detail) :
    EventQueue :=
  if q.records.any (fun r => r.absorbs src d) then
    { q with records := q.records.map fun r =>
        if r.absorbs src d then { r with detail := d, time := now, count := satInc r.count } else r }
  else if q.records.length < 32 then
    let seq := freshSeq (q.records.map (·.seq)) 32 q.seqCounter
    let missed := q.missed[src.index]
    { q with
      records := q.records ++ [{ seq := seq, source := src, line := tag, time := now, detail := d,
                                 count := 1, missed := if missed = 0 then none else some missed }],
      seqCounter := seq + 1,
      missed := q.missed.set src.index 0 }
  else
    { q with missed := q.missed.set src.index (satInc q.missed[src.index]), overflow := true }

/-- An enqueue with the routing tag of the source and the time of this moment (R148, R161). -/
def State.enqueue (s : State) (src : Source) (d : Detail) : State :=
  { s with events := s.events.enqueue (s.routing[src.index]).line s.millis src d }

/-! ## Requests to a bus engine (R109 to R111) -/

def Waiters.none : Waiters := { refresh := false, debounce := false, sweep := false }

/-- The waiters of both. -/
def Waiters.join (v w : Waiters) : Waiters :=
  { refresh := v.refresh || w.refresh, debounce := v.debounce || w.debounce, sweep := v.sweep || w.sweep }

def Entry.isRead (e : Entry) (b : BayId) : Bool := e.kind = .inputRead && e.bay = b

def Entry.isWrite (e : Entry) (b : BayId) : Bool := e.kind = .outputWrite && e.bay = b

/-- The engine queues requests: ENABLE is 1 and the bus is not FAILED (R111). -/
def Engine.takes (e : Engine) : Bool := e.config.enable && e.bus ≠ .failed

/-- R109: the request joins the bay's queued read, or a new entry is queued at the back. -/
def queueRead (q : List Entry) (b : BayId) (w : Waiters) : List Entry :=
  if q.any (fun e => e.isRead b) then
    q.map fun e => if e.isRead b then { e with waiters := e.waiters.join w } else e
  else q ++ [{ kind := .inputRead, bay := b, urgent := false, waiters := w, carried := none }]

/-- R110: the request joins the bay's queued write, or a new entry is queued at the back. -/
def queueWrite (q : List Entry) (b : BayId) (urgent : Bool) : List Entry :=
  if q.any (fun e => e.isWrite b) then
    q.map fun e => if e.isWrite b then { e with urgent := e.urgent || urgent } else e
  else q ++ [{ kind := .outputWrite, bay := b, urgent := urgent, waiters := .none, carried := none }]

/-- A request for an input read of a bay (R109); it is not queued for a bay that is not BOUND (R111). -/
def State.requestRead (s : State) (b : BayId) (w : Waiters) : State :=
  if (s.bay b).link = .bound && (s.engine (busOf b)).takes then
    s.modifyEngine (busOf b) fun e => { e with queue := queueRead e.queue b w }
  else s

/-- A request for an output write of a bay (R110); it is not queued for a bay that is not BOUND (R111). -/
def State.requestWrite (s : State) (b : BayId) (urgent : Bool) : State :=
  if (s.bay b).link = .bound && (s.engine (busOf b)).takes then
    s.modifyEngine (busOf b) fun e => { e with queue := queueWrite e.queue b urgent }
  else s

/-- A request of the Discovery Unit: a new entry at the back (R111). -/
def State.requestDiscovery (s : State) (b : BayId) (kind : TxKind) (carried : Option Written) : State :=
  if (s.engine (busOf b)).takes then
    s.modifyEngine (busOf b) fun e =>
      { e with queue := e.queue ++
          [{ kind := kind, bay := b, urgent := false, waiters := .none, carried := carried }] }
  else s

/-! ## Target image (R11) -/

/-- One update of the target image: when a field changes, the generation advances by one and a write is
requested (R11, R110). -/
def State.updateTarget (s : State) (b : BayId) (f : Image → Image) (urgent : Bool) : State :=
  if f (s.bay b).target = (s.bay b).target then s
  else (s.modifyBay b fun x => { x with target := f x.target, targetGen := x.targetGen + 1 }).requestWrite
    b urgent

/-! ## Command completion (R59) -/

/-- The command in progress ends with a result, and its COMMAND record is enqueued (R59). -/
def State.completeCommand (s : State) (b : BayId) (r : CommandResult) : State :=
  let sl := (s.bay b).slot
  if sl.inProgress then
    let t := s.modifyBay b fun x =>
      { x with slot := { sl with inProgress := false, awaited := none, lastResult := r, resultTag := sl.tag } }
    match sl.code with
    | none => t
    | some c => t.enqueue (.bay b) (.command c sl.tag r)
  else s

/-! ## Sweeps (R87 to R89) -/

/-- The sweep condition of a bus (R87). -/
def State.sweepCondition (s : State) (n : BusId) : Bool :=
  s.alerts[n] && (s.engine n).takes && (baysOf n).any fun b => (s.bay b).link = .bound

/-- The start of a sweep: a read of every BOUND bay, in ascending order (R88). -/
def State.startSweep (s : State) (n : BusId) : State :=
  let waiting := (baysOf n).filter fun b => (s.bay b).link = .bound
  (waiting.foldl (fun t b => t.requestRead b { Waiters.none with sweep := true }) s).modifyEngine n
    fun e => { e with sweep := some waiting }

/-- The evaluation of the sweep condition: a sweep starts when it holds and none is running (R87). -/
def State.evalSweep (s : State) (n : BusId) : State :=
  if (s.engine n).sweep = none && s.sweepCondition n then s.startSweep n else s

/-- A bay leaves the waiting bays of its bus's sweep; an emptied sweep ends, and the condition is
evaluated at once (R89). -/
def State.sweepLeave (s : State) (b : BayId) : State :=
  match (s.engine (busOf b)).sweep with
  | none => s
  | some waiting =>
    let rest := waiting.filter fun c => c ≠ b
    if rest.isEmpty then
      (s.modifyEngine (busOf b) fun e => { e with sweep := none }).evalSweep (busOf b)
    else s.modifyEngine (busOf b) fun e => { e with sweep := some rest }

/-! ## Removal of queued entries and departure from BOUND (R7, R112) -/

/-- Every queued entry of the bay is removed; the sweep loses the bay when one of them was its sweep
read (R112). The other waiters are answered by the departure itself (R7). -/
def State.dropEntries (s : State) (b : BayId) : State :=
  let swept := (s.engine (busOf b)).queue.any fun e => e.bay = b && e.waiters.sweep
  let t := s.modifyEngine (busOf b) fun e => { e with queue := e.queue.filter fun x => x.bay ≠ b }
  if swept then t.sweepLeave b else t

/-- The result of a command that a departure ends (R7 step 3). -/
def departureResult (cause : LinkCause) : CommandResult :=
  if cause = .released then .aborted else .lost

/-- The fields that a departure stops and clears (R7 steps 1 and 2). -/
def Bay.leaveBound (x : Bay) (dest : LinkState) : Bay :=
  { x with link := dest, power := .unknown, timer := none, candidate := none, pendingUp := false,
           step := none, stepGen := none, profile := none, chain := none }

/-- The departure of a BOUND bay to another link state (R7). -/
def State.depart (s : State) (b : BayId) (dest : LinkState) (cause : LinkCause) : State :=
  let s1 := s.modifyBay b fun x => x.leaveBound dest
  let s2 := s1.completeCommand b (departureResult cause)
  let s3 := s2.dropEntries b
  (s3.enqueue (.bay b) (.link dest cause)).enqueue (.bay b) (.state .unknown .link)

/-! ## Hunts (R127 to R130) -/

/-- A bay leaves the set of hunted bays of its bus (R127). -/
def State.huntLeave (s : State) (b : BayId) : State :=
  s.modifyEngine (busOf b) fun e =>
    { e with hunt := e.hunt.map fun h => { h with hunted := h.hunted.filter fun p => p.1 ≠ b } }

/-- The origin of a hunted bay (R127). -/
def State.huntOrigin (s : State) (b : BayId) : Option Origin :=
  (s.engine (busOf b)).hunt.bind fun h => (h.hunted.find? fun p => p.1 = b).map (·.2)

/-- A hunt whose set of hunted bays is empty ends with its HUNT_DONE record (R130). -/
def State.endHunt (s : State) (n : BusId) : State :=
  match (s.engine n).hunt with
  | none => s
  | some h =>
    if h.hunted.isEmpty then
      (s.enqueue .part (.huntDone n h.found h.bound)).modifyEngine n fun e => { e with hunt := none }
    else s

/-- A hunt reaches a bay: MANAGED is 1 and the link is ABSENT or LOST (R128). -/
def State.huntReach (s : State) (b : BayId) : State :=
  let x := s.bay b
  if x.config.managed && (x.link = .absent || x.link = .lost) then
    let origin : Origin := if x.link = .lost then .lost else .absent
    let s1 := s.modifyEngine (busOf b) fun e =>
      { e with hunt := e.hunt.map fun h => { h with hunted := h.hunted ++ [(b, origin)] } }
    (s1.modifyBay b fun y => { y with link := .probing }).requestDiscovery b .probe none
  else s

/-- A hunt of a bus starts; one that reaches no bay ends within the event (R128, R130). -/
def State.startHunt (s : State) (n : BusId) : State :=
  let s1 := s.modifyEngine n fun e => { e with hunt := some { hunted := [], found := 0, bound := 0 } }
  ((baysOf n).foldl State.huntReach s1).endHunt n

/-! ## A whole bus: failure, restart, disable (R122 to R124) -/

/-- The turn of one bay when its bus fails or is restarted (R122 step 5, R123 step 5). -/
def State.bayDown (failing : Bool) (s : State) (b : BayId) : State :=
  let cause : LinkCause := if failing then .bus else .restart
  match (s.bay b).link with
  | .bound => s.depart b .lost cause
  | .setup =>
    ((s.modifyBay b fun x => { x with link := .lost, chain := none }).huntLeave b).enqueue (.bay b)
      (.link .lost cause)
  | .probing =>
    if failing then
      let t := (s.modifyBay b fun x => { x with link := .absent }).huntLeave b
      if s.huntOrigin b = some .lost then t.enqueue (.bay b) (.link .absent cause) else t
    else
      ((s.modifyBay b fun x => { x with link := .lost }).huntLeave b).enqueue (.bay b) (.link .lost cause)
  | .absent => s
  | .lost => s

/-- A bus fails (R122), or its work is ended by a restart or a disable (R123 steps 1 to 6). Every sweep
read of the bus ends, so the sweep ends (R90). -/
def State.busDown (s : State) (n : BusId) (failing : Bool) : State :=
  let s1 := s.modifyEngine n fun e =>
    { e with bus := if failing then .failed else .idle, queue := [], sweep := none }
  let s2 := s1.enqueue (.bus n) (.bus failing)
  (((baysOf n).foldl (State.bayDown failing) s2).evalSweep n).endHunt n

/-! ## Events -/

/-- A command that is no register word: while RESET_N is low every block is held (R126, R169), and
otherwise the event is taken and the Router told of its appends. -/
def State.event (s : State) (t : State) : Host.Outcome State Fault Refusal :=
  if s.resetLow then .next s else .next (s.noticeAppends t)

/-- The port takes a word at `addr`: in a frame, as its first word or at the address after the one
before (R169, R170). -/
def State.takesWord (s : State) (addr : Addr) : Bool :=
  match s.port.frame with
  | .opened none => !s.resetLow
  | .opened (some a) => !s.resetLow && a = addr
  | _ => false

/-- The frame after the port has taken a word at `addr`: the next word is at the address plus 4, and
the address after 0xFFC is 0x000 (R169). -/
def State.afterWord (s : State) (addr : Addr) : State :=
  { s with port := { s.port with frame := .opened (some (addr + 4)) } }

/-- A register word at `addr`: handed to its owner when the port takes it, and no event otherwise
(R169, R170, R177; log entry 5). -/
def State.wordEvent (s : State) (addr : Addr) (owner : State → State) : Host.Outcome State Fault Refusal :=
  if s.takesWord addr then .next (s.noticeAppends (owner (s.afterWord addr))) else .next s

end Sys2Proof.Machine
end

