-- ==== Sys2Proof/Machine/Sequencer.lean ====
section
/-! DEFINITION. The Sequencer (02_power_sequencing): power-up, power-down, cooldown, faults, and the
meanings of the expiries of the sequence timer. -/

namespace Sys2Proof.Machine

/-! ## Profiles and classes (R20, R21) -/

/-- The profile whose fields the bay reads: the active one, or profile 0 when there is none (R20). -/
def State.profileOf (s : State) (b : BayId) : Profile := s.profiles[(s.bay b).profile.getD 0]

/-- The profile that the Class Map gives for the accepted class; none for DENY or no class (R21). -/
def State.classProfile (s : State) (b : BayId) : Option ProfileId :=
  (s.bay b).accepted.moduleClass.bind fun c => s.classMap[c.toNat]

/-! ## Power indicator (R6, R41) -/

/-- The mode of IND_P that stands in a power state and stage (R6); none in UNKNOWN. -/
def Bay.indicatorMode (x : Bay) : Option IndMode :=
  match x.power with
  | .ramp => some .slow
  | .clock => some (if x.target.released then .on else .slow)
  | .on => some .on
  | .drain => some (if x.step = some .p then .off else .slow)
  | .off => some .off
  | .cool => some .off
  | .faulted => some .fast
  | .unknown => none

/-- IND_P as the Sequencer sets it in an update: only while AUTO_IND is 1 (R41). -/
def Image.autoInd (i : Image) (auto : Bool) (m : IndMode) : Image :=
  if auto then { i with indP := m } else i

/-! ## The updates (R24, R26, R28, R32, R43) -/

/-- The ramp update (R24). -/
def rampUpdate (c : BayConfig) (i : Image) : Image :=
  ({ i with pwrEn := true, lock := i.lock || c.lockBeforePower } : Image).autoInd c.autoInd .slow

/-- The clock update (R26): IND_P stays as it is. -/
def clockUpdate (i : Image) : Image := { i with clkEn := true }

/-- The release update (R28). -/
def releaseUpdate (c : BayConfig) (i : Image) : Image :=
  ({ i with released := true } : Image).autoInd c.autoInd .on

/-- The drain step update (R32): the power fields of the confirmed image, the step's own output off. -/
def drainUpdate (c : BayConfig) (confirmed : Image) (st : SeqStep) (i : Image) : Image :=
  let j : Image := { i with pwrEn := confirmed.pwrEn, clkEn := confirmed.clkEn, released := confirmed.released }
  match st with
  | .r => ({ j with released := false } : Image).autoInd c.autoInd .slow
  | .c => ({ j with clkEn := false } : Image).autoInd c.autoInd .slow
  | .p => ({ j with pwrEn := false } : Image).autoInd c.autoInd .off

/-- All three power outputs off. -/
def Image.powerOff (i : Image) : Image := { i with pwrEn := false, clkEn := false, released := false }

/-- The update that completes a drain (R32). -/
def drainCompletion (c : BayConfig) (i : Image) : Image := i.powerOff.autoInd c.autoInd .off

/-- The fault update (R43). -/
def faultUpdate (c : BayConfig) (i : Image) : Image := i.powerOff.autoInd c.autoInd .fast

/-- The case of a drain step computation (R32): the first output still on, or none. -/
def drainCase (i : Image) : Option SeqStep :=
  if i.released then some .r
  else if i.clkEn then some .c
  else if i.pwrEn then some .p
  else none

/-- The confirmed image a drain step is computed from: all off when there is none (R32; log entry 19). -/
def Bay.confirmedImage (x : Bay) : Image :=
  match x.confirmed with
  | none => Image.allOff
  | some w => w.image

/-! ## Power-up (R24 to R30) -/

/-- The sequence timer starts for a purpose (R18, R23). -/
def State.startTimer (s : State) (b : BayId) (p : SeqPurpose) (n : Nat) : State :=
  s.modifyBay b fun x => { x with timer := some { purpose := p, left := n } }

/-- The end of the ramp wait (R25). -/
def State.rampWaitEnd (s : State) (b : BayId) : State :=
  let p := s.profileOf b
  match p.rampMode with
  | .fixed => s.startTimer b .rampWait p.rampTime.toNat
  | .pgood => (s.startTimer b .rampTimeout p.rampTime.toNat).requestRead b .none

/-- A power-up begins (R24); a wait already satisfied ends at once (R22). -/
def State.beginPowerUp (s : State) (b : BayId) : State :=
  let cfg := (s.bay b).config
  let s1 := s.modifyBay b fun x => { x with profile := s.classProfile b }
  let s2 := s1.updateTarget b (rampUpdate cfg) false
  let s3 := s2.modifyBay b fun x =>
    { x with power := .ramp, timer := none, pendingUp := false, stepGen := some x.targetGen }
  if (s3.bay b).stepReached then s3.rampWaitEnd b else s3

/-- The automatic start conditions, the power state apart (R30). -/
def State.autoStartReady (s : State) (b : BayId) : Bool :=
  let x := s.bay b
  x.config.autoOn && x.accepted.present && x.accepted.latchClosed && (s.classProfile b).isSome

/-- The automatic start evaluation (R30). -/
def State.autoStart (s : State) (b : BayId) : State :=
  if (s.bay b).power = .off && s.autoStartReady b then s.beginPowerUp b else s

/-- The end of the clock wait (R28). -/
def State.clockWaitEnd (s : State) (b : BayId) : State :=
  s.startTimer b .clkToRst (s.profileOf b).clkToRst.toNat

/-- The end of the ramp, in either mode (R26). -/
def State.endOfRamp (s : State) (b : BayId) : State :=
  let s1 := s.updateTarget b clockUpdate false
  let s2 := s1.modifyBay b fun x => { x with power := .clock, timer := none, stepGen := some x.targetGen }
  if (s2.bay b).stepReached then s2.clockWaitEnd b else s2

/-- The entry into ON (R29). -/
def State.enterOn (s : State) (b : BayId) : State :=
  let commanded := (s.bay b).slot.runs .powerOn
  let s1 := s.modifyBay b fun x => { x with power := .on, timer := none, stepGen := none }
  let s2 := if commanded then s1.completeCommand b .done else s1
  s2.enqueue (.bay b) (.state .on (if commanded then .command else .auto))

/-- The release update at the end of CLK_TO_RST (R28). -/
def State.releaseReset (s : State) (b : BayId) : State :=
  let cfg := (s.bay b).config
  let s1 := s.updateTarget b (releaseUpdate cfg) false
  let s2 := s1.modifyBay b fun x => { x with timer := none, stepGen := some x.targetGen }
  if (s2.bay b).stepReached then s2.enterOn b else s2

/-! ## Cooldown (R34, R35) -/

/-- The entry into OFF on cooldown expiry, with the automatic start evaluation (R35). -/
def State.enterOff (s : State) (b : BayId) : State :=
  let s1 := s.modifyBay b fun x => { x with power := .off, timer := none, profile := none }
  (s1.enqueue (.bay b) (.state .off .auto)).autoStart b

/-- A held power-up passes the checks at cooldown expiry (R35). -/
def State.heldReady (s : State) (b : BayId) : Bool :=
  let x := s.bay b
  x.accepted.present && (x.accepted.latchClosed || !x.config.latchOff) && (s.classProfile b).isSome

/-- A held power-up that fails its checks is abandoned, its POWER_ON ending ABORTED (R35). -/
def State.abandonHeld (s : State) (b : BayId) : State :=
  if (s.bay b).pendingUp && !s.heldReady b then
    (s.modifyBay b fun x => { x with pendingUp := false }).completeCommand b .aborted
  else s

/-- The expiry of COOLDOWN (R35). -/
def State.cooldownEnds (s : State) (b : BayId) : State :=
  let t := s.abandonHeld b
  if (t.bay b).pendingUp then t.beginPowerUp b else t.enterOff b

/-- The entry into COOL (R34). `cause` is the cause of R47 for an entry from CLEAR_FAULT or binding;
without one the entry ends a drain, and the POWER_OFF in progress decides it. With COOLDOWN 0 the expiry
is taken in the same event, and a POWER_ON that it aborts has its COMMAND record before the STATE records
(R48). -/
def State.enterCool (s : State) (b : BayId) (cause : Option StateCause) : State :=
  let auto := (s.bay b).config.autoInd
  let s1 := s.modifyBay b fun x => { x with power := .cool, timer := none }
  let s2 := s1.updateTarget b (fun i => i.autoInd auto .off) false
  let s3 := s2.modifyBay b fun x => { x with step := none, stepGen := none }
  let commanded := (s3.bay b).slot.runs .powerOff
  let s4 := if commanded then s3.completeCommand b .done else s3
  let n := (s4.profileOf b).cooldown.toNat
  let s5 := if n = 0 then s4.abandonHeld b else s4
  let s6 := s5.enqueue (.bay b) (.state .cool (cause.getD (if commanded then .command else .auto)))
  if n = 0 then s6.cooldownEnds b else s6.startTimer b .cooldown n

/-! ## Power-down (R31 to R33) -/

/-- The drain is complete (R32): one update to all off, then COOL without waiting for its write. -/
def State.drainDone (s : State) (b : BayId) : State :=
  let cfg := (s.bay b).config
  (s.updateTarget b (drainCompletion cfg) false).enterCool b none

/-- The update of one drain step, and its wait (R32). -/
def State.drainStep (s : State) (b : BayId) (st : SeqStep) : State :=
  let x := s.bay b
  (s.updateTarget b (drainUpdate x.config x.confirmedImage st) false).modifyBay b fun y =>
    { y with step := some st, stepGen := some y.targetGen, timer := none }

/-- The drain step computation (R32). A step whose generation is reached already ends at once (R22), and
a DRAIN_STEP of 0 goes on to the next computation (R33); the fuel bounds that chain, which no run from
reset enters (log entry 17). -/
def State.drainCompute : Nat → State → BayId → State
  | fuel, s, b =>
    match drainCase (s.bay b).confirmedImage with
    | none => s.drainDone b
    | some st =>
      let t := s.drainStep b st
      if (t.bay b).stepReached then
        if st = .p then t.enterCool b none
        else if (t.profileOf b).drainStep = 0 then
          match fuel with
          | 0 => t
          | k + 1 => State.drainCompute k t b
        else t.startTimer b .drainStep (t.profileOf b).drainStep.toNat
      else t

/-- The longest chain of drain steps within one event: R, C, P and the completion. -/
def drainFuel : Nat := 3

/-- The wait of a drain step ends (R33). -/
def State.drainWaitEnd (s : State) (b : BayId) (st : SeqStep) : State :=
  if st = .p then s.enterCool b none
  else if (s.profileOf b).drainStep = 0 then State.drainCompute drainFuel s b
  else s.startTimer b .drainStep (s.profileOf b).drainStep.toNat

/-- An output write of the bay is in flight or held by its engine, and is not ignored (R31, R121). -/
def State.writeUnderWay (s : State) (b : BayId) : Bool :=
  match (s.engine (busOf b)).bus.current with
  | none => false
  | some tx => tx.entry.isWrite b && !tx.ignored

/-- A power-down (R31). -/
def State.powerDown (s : State) (b : BayId) : State :=
  let s1 := if (s.bay b).slot.runs .powerOn then s.completeCommand b .aborted else s
  let s2 := s1.modifyBay b fun x => { x with power := .drain, timer := none, step := none, stepGen := none }
  if s2.writeUnderWay b then s2 else State.drainCompute drainFuel s2 b

/-- The power states a power-down leaves (R31, R36, R37). -/
def PowerState.powered (p : PowerState) : Bool := p = .ramp || p = .clock || p = .on

/-! ## Faults (R42 to R46) -/

/-- A fault taken in RAMP, CLOCK, ON or DRAIN (R43). -/
def State.takeFault (s : State) (b : BayId) (kind : FaultKind) : State :=
  let cfg := (s.bay b).config
  let s1 := s.updateTarget b (faultUpdate cfg) true
  let s2 := s1.modifyBay b fun x =>
    { x with timer := none, step := none, stepGen := some x.targetGen, power := .faulted,
             faultKind := if x.faultKind = .noFault then kind else x.faultKind,
             faultCount := satInc x.faultCount, pendingUp := false }
  let sl := (s2.bay b).slot
  let s3 := if sl.runs .powerOn || sl.runs .powerOff then s2.completeCommand b .fault else s2
  (s3.enqueue (.bay b) (.fault kind)).enqueue (.bay b) (.state .faulted .fault)

/-- A CLEAR_FAULT completes (R46). -/
def State.faultCleared (s : State) (b : BayId) : State :=
  ((s.modifyBay b fun x => { x with faultKind := .noFault, faultCount := 0 }).completeCommand b
    .done).enterCool b (some .command)

/-- The judgement of a completed read's live levels by the power state (R42, R44, R45, R46, R27).
`before` is the FAULT level of the read before this one. -/
def State.judgeLive (s : State) (b : BayId) (before : Bool) : State :=
  let lv := (s.bay b).live
  let s0 := if lv.fault then s else s.modifyBay b fun x => { x with idleNote := false }
  match (s.bay b).power with
  | .ramp =>
    if lv.fault then s0.takeFault b .fltInput
    else if lv.pgood && ((s.bay b).timer.map (·.purpose)) = some .rampTimeout then s0.endOfRamp b
    else s0
  | .clock | .on =>
    if lv.fault then s0.takeFault b .fltInput
    else if lv.pgood then s0
    else s0.takeFault b .pgoodLost
  | .drain => if lv.fault then s0.takeFault b .fltInput else s0
  | .faulted =>
    if lv.fault then
      let s1 := if before then s0 else s0.modifyBay b fun x => { x with faultCount := satInc x.faultCount }
      if (s1.bay b).slot.runs .clearFault then s1.completeCommand b .fault else s1
    else s0
  | .off | .cool =>
    if lv.fault && !(s.bay b).idleNote then
      (s0.modifyBay b fun x => { x with idleNote := true }).enqueue (.bay b) (.fault .fltInputIdle)
    else s0
  | .unknown => s0

/-! ## The tests at a write's completion (R22, R31, R39, R46, R60, R116) -/

/-- The Sequencer's test: the step generation, or the drain that waited for this write. -/
def State.sequencerTest (s : State) (b : BayId) : State :=
  let x := s.bay b
  match x.power with
  | .ramp => if x.timer.isNone && x.stepReached then s.rampWaitEnd b else s
  | .clock =>
    if x.timer.isNone && x.stepReached then
      if x.target.released then s.enterOn b else s.clockWaitEnd b
    else s
  | .drain =>
    match x.step with
    | none => State.drainCompute drainFuel s b
    | some st => if x.timer.isNone && x.stepReached then s.drainWaitEnd b st else s
  | _ => s

/-- The Command Unit's test of the awaited generation: DONE when it is reached (R60); a CLEAR_FAULT takes
the bay to COOL with it (R46). -/
def State.awaitedTest (s : State) (b : BayId) : State :=
  let x := s.bay b
  match x.slot.awaited with
  | none => s
  | some g =>
    if x.slot.inProgress && x.reached g then
      if x.slot.code = some .clearFault then s.faultCleared b else s.completeCommand b .done
    else s

/-! ## Meanings: expiries of the sequence timer -/

/-- The bay's sequence timer runs for purpose `p` and has no tick left (R18, R23). -/
def State.timerDue (s : State) (b : BayId) (p : SeqPurpose) : Bool :=
  (s.bay b).timer = some { purpose := p, left := 0 }

/-- RAMP_TIME_EXPIRY: in FIXED mode the ramp ends (R26). -/
def execRampTimeExpiry (b : BayId) (s : State) : Host.Outcome State Fault Refusal :=
  s.event (if s.timerDue b .rampWait && (s.bay b).power = .ramp then s.endOfRamp b else s)

/-- RAMP_TIMEOUT: in PGOOD mode a RAMP_TIMEOUT fault is taken (R27). -/
def execRampTimeout (b : BayId) (s : State) : Host.Outcome State Fault Refusal :=
  s.event (if s.timerDue b .rampTimeout && (s.bay b).power = .ramp then s.takeFault b .rampTimeout else s)

/-- CLK_TO_RST_EXPIRY: the release update (R28). -/
def execClkToRstExpiry (b : BayId) (s : State) : Host.Outcome State Fault Refusal :=
  s.event (if s.timerDue b .clkToRst && (s.bay b).power = .clock then s.releaseReset b else s)

/-- DRAIN_STEP_EXPIRY: the next drain step computation (R33). -/
def execDrainStepExpiry (b : BayId) (s : State) : Host.Outcome State Fault Refusal :=
  s.event (if s.timerDue b .drainStep && (s.bay b).power = .drain then
    State.drainCompute drainFuel (s.modifyBay b fun x => { x with timer := none }) b else s)

/-- COOLDOWN_EXPIRY: OFF, or the held power-up begins or is abandoned (R35). -/
def execCooldownExpiry (b : BayId) (s : State) : Host.Outcome State Fault Refusal :=
  s.event (if s.timerDue b .cooldown && (s.bay b).power = .cool then
    (s.modifyBay b fun x => { x with timer := none }).cooldownEnds b else s)

end Sys2Proof.Machine
end

