-- ==== Sys2Proof/Machine/Inputs.lean ====
section
/-! DEFINITION. The Input Monitor (04_input_sensing) with mismatch detection (05, R102 to R104): what a
completed read of a BOUND bay does, debounce, alert sweeps and the periodic poll. -/

namespace Sys2Proof.Machine

/-! ## Debounce (R77 to R81) -/

/-- The candidate no longer waits on the bay's queued read (R81). -/
def State.dropConfirming (s : State) (b : BayId) : State :=
  s.modifyEngine (busOf b) fun e =>
    { e with queue := e.queue.map fun x =>
        if x.isRead b then { x with waiters := { x.waiters with debounce := false } } else x }

/-- A candidate in TIMING with the DEBOUNCE value read now (R78, R79, R81). -/
def State.startCandidate (s : State) (b : BayId) (v : View) : State :=
  s.modifyBay b fun x =>
    { x with candidate := some { view := v, phase := .timing x.config.debounce.toNat } }

/-- The candidate is discarded and the debounce timer stopped. -/
def State.discardCandidate (s : State) (b : BayId) : State :=
  s.modifyBay b fun x => { x with candidate := none }

/-! ## Acceptance (R83 to R86) -/

/-- The power-down that an accepted removal or opened latch starts when its configuration asks for it
(R36, R37). -/
def State.automaticOff (s : State) (b : BayId) (enabled : Bool) : State :=
  if enabled && (s.bay b).power.powered then s.powerDown b else s

/-- An accepted change of presence reaches the Sequencer (R85). -/
def State.presenceHandOff (s : State) (b : BayId) : State :=
  if (s.bay b).accepted.present then s.autoStart b else s.automaticOff b (s.bay b).config.surpriseOff

/-- An accepted change of the latch reaches the Sequencer (R85). -/
def State.latchHandOff (s : State) (b : BayId) : State :=
  if (s.bay b).accepted.latchClosed then s.autoStart b else s.automaticOff b (s.bay b).config.latchOff

/-- The records of an acceptance, from the accepted image before it (R84). -/
def State.acceptanceRecords (s : State) (b : BayId) (before : Accepted) : State :=
  let a := (s.bay b).accepted
  let s1 := if a.present = before.present then s
    else s.enqueue (.bay b) (.presence a.present a.moduleClass)
  let s2 := if a.latchClosed = before.latchClosed then s1 else s1.enqueue (.bay b) (.latch a.latchClosed)
  let s3 := if a.pressed && !before.pressed then s2.enqueue (.bay b) .button else s2
  if a.aux0 = before.aux0 && a.aux1 = before.aux1 then s3 else s3.enqueue (.bay b) (.aux a.aux0 a.aux1)

/-- The acceptance of a view (R83): the image and class, then the records, then the hand-offs. -/
def State.acceptView (s : State) (b : BayId) (v : View) (levels : Half) : State :=
  let before := (s.bay b).accepted
  let s1 := s.modifyBay b fun x => { x with accepted := v.accept x.accepted levels, candidate := none }
  let s2 := s1.acceptanceRecords b before
  let s3 := if v.present = before.present then s2 else s2.presenceHandOff b
  if v.latchClosed = before.latchClosed then s3 else s3.latchHandOff b

/-- The debounce rules for a read's view (R78, R79, R81). `confirming` says that the read is the
confirming read of the candidate. -/
def State.debounce (s : State) (b : BayId) (v : View) (levels : Half) (confirming : Bool) : State :=
  let x := s.bay b
  match x.candidate with
  | none => if v.agrees x.accepted then s else s.startCandidate b v
  | some c =>
    match c.phase with
    | .timing _ =>
      if v = c.view then s
      else if v.agrees x.accepted then s.discardCandidate b
      else s.startCandidate b v
    | .confirming =>
      if v = c.view then (if confirming then s.acceptView b v levels else s)
      else if v.agrees x.accepted then (s.discardCandidate b).dropConfirming b
      else (s.startCandidate b v).dropConfirming b

/-! ## Mismatch (R102 to R104) -/

/-- An output write of the bay is outstanding: in flight, or queued with a generation not yet reached
(R103). -/
def State.writeOutstanding (s : State) (b : BayId) : Bool :=
  s.writeUnderWay b ||
    ((s.engine (busOf b)).queue.any (fun e => e.isWrite b) && !(s.bay b).reached (s.bay b).targetGen)

/-- A read of a BOUND bay shows a mismatch (R102), unless a write is outstanding (R103). -/
def State.mismatch (s : State) (b : BayId) (output direction : Half) : Bool :=
  match (s.bay b).confirmed with
  | none => false
  | some w =>
    let r := w.image.encode w.dirs
    !s.writeOutstanding b && !(output = r.output && direction = r.direction)

/-! ## A completed read (R73) -/

/-- Step 1 of R73: the sampled image and the live inputs are replaced (R74). -/
def State.sampleRead (s : State) (b : BayId) (levels : Half) : State :=
  s.modifyBay b fun x =>
    { x with sampled := some { levels := levels, time := s.millis }, live := Live.ofLevels levels }

/-- Step 5 of R73: a REFRESH that waited on the read completes, and the bay's part of a sweep ends. -/
def State.answerWaiters (s : State) (b : BayId) (w : Waiters) : State :=
  let s1 := if w.refresh && (s.bay b).slot.runs .refresh then s.completeCommand b .done else s
  if w.sweep then s1.sweepLeave b else s1

/-- The uses of a completed INPUT_READ of a bay, in the order of R73. -/
def State.readDone (s : State) (b : BayId) (w : Waiters) (levels output direction : Half) : State :=
  let before := (s.bay b).live.fault
  let s1 := s.sampleRead b levels
  let s2 :=
    if (s1.bay b).link = .bound then
      if s1.mismatch b output direction then
        (s1.depart b .setup .mismatch).requestDiscovery b (.setup .identRead) none
      else
        let s3 := s1.judgeLive b before
        if (s3.bay b).link = .bound then
          s3.debounce b (View.ofLevels levels (s3.bay b).auxDirs) levels w.debounce
        else s3
    else s1
  s2.answerWaiters b w

/-! ## Meanings: debounce expiry, poll and alert -/

/-- The debounce timer of the bay has no tick left (R80). -/
def State.debounceDue (s : State) (b : BayId) : Bool :=
  match (s.bay b).candidate with
  | none => false
  | some c => c.phase = .timing 0

/-- The candidate enters CONFIRMING and its confirming read is requested (R80). -/
def State.confirmCandidate (s : State) (b : BayId) : State :=
  (s.modifyBay b fun x => { x with candidate := x.candidate.map fun c => { c with phase := .confirming } }).requestRead
    b { Waiters.none with debounce := true }

/-- DEBOUNCE_EXPIRY (R80). -/
def execDebounceExpiry (b : BayId) (s : State) : Host.Outcome State Fault Refusal :=
  s.event (if s.debounceDue b then s.confirmCandidate b else s)

/-- The interval of a POLL_INTERVAL count, in ticks; none for 0 (R91). -/
def pollTicks (count : Byte) : Option Nat := if count = 0 then none else some (10 * count.toNat)

/-- The reads of a poll (R91 step 1). -/
def State.pollReads (s : State) (n : BusId) : State :=
  (baysOf n).foldl (fun t b => t.requestRead b .none) s

/-- POLL_TIMER_EXPIRY: a read of every BOUND bay, and the timer restarted (R91). -/
def execPollTimerExpiry (n : BusId) (s : State) : Host.Outcome State Fault Refusal :=
  s.event (if (s.engine n).poll = some 0 then
    (s.pollReads n).modifyEngine n fun e => { e with poll := pollTicks e.config.pollInterval } else s)

/-- The level of XALERTn_N. -/
def State.setAlert (s : State) (n : BusId) (asserted : Bool) : State :=
  { s with alerts := s.alerts.set n asserted }

/-- XALERT_ASSERTED: the line changes to asserted and the sweep condition is evaluated (R87). The pin's
level is no block's state, so it follows the pin while RESET_N is low too (log entry 8). -/
def execXalertAsserted (n : BusId) (s : State) : Host.Outcome State Fault Refusal :=
  if s.alerts[n] then .next s
  else if s.resetLow then .next (s.setAlert n true)
  else (s.setAlert n true).event ((s.setAlert n true).evalSweep n)

/-- XALERT_DEASSERTED: a level change at the Input Monitor, and nothing else (R87). -/
def execXalertDeasserted (n : BusId) (s : State) : Host.Outcome State Fault Refusal :=
  .next (s.setAlert n false)

end Sys2Proof.Machine
end

