-- ==== Sys2Proof/Machine/Discovery.lean ====
section
/-! DEFINITION. The Discovery Unit (07_discovery_and_binding): the outcomes of probes and setup steps,
adoption, force safe, binding and the checks after it. -/

namespace Sys2Proof.Machine

/-! ## Probe and identification (R129, R132) -/

/-- An acknowledged probe (R129). -/
def State.probeFound (s : State) (b : BayId) : State :=
  let s1 := s.modifyEngine (busOf b) fun e =>
    { e with hunt := e.hunt.map fun h => { h with found := h.found + 1 } }
  (s1.modifyBay b fun x => { x with link := .setup }).requestDiscovery b (.setup .identRead) none

/-- An exhausted probe: "not found" (R129). -/
def State.probeNotFound (s : State) (b : BayId) : State :=
  let origin := s.huntOrigin b
  let s1 := (s.modifyBay b fun x => { x with link := .absent }).huntLeave b
  let s2 := if origin = some .lost then s1.enqueue (.bay b) (.link .absent .gone) else s1
  s2.endHunt (busOf b)

/-- The IDENT byte is judged (R132). -/
def State.identJudged (s : State) (b : BayId) (ident : Byte) : State :=
  if ident = 0x6B then s.requestDiscovery b (.setup .setupRead) none
  else
    (((s.modifyBay b fun x => { x with link := .absent, chain := none }).huntLeave b).enqueue (.bay b)
      (.link .absent .foreign)).endHunt (busOf b)

/-- A setup step is exhausted (R139). -/
def State.setupFailed (s : State) (b : BayId) : State :=
  (((s.modifyBay b fun x => { x with link := .lost, chain := none }).enqueue (.bay b)
    (.link .lost .noAck)).huntLeave b).endHunt (busOf b)

/-! ## Adoption and force safe (R133 to R135) -/

/-- The adoption decision (R134): the power state to adopt, or none for force safe. -/
def adoptDecision (r : Regs) (d : Dirs) : Option Decided :=
  let p := r.output.getLsbD 0
  let c := r.output.getLsbD 1
  let m := r.output.getLsbD 2
  if r.consistent d && p && c && m then some .on
  else if r.consistent d && !p && !c && !m then some .off
  else none

/-- Line `i` of the readback is an output driven high (R135). -/
def Regs.drivenHigh (r : Regs) (i : Nat) : Bool := r.direction.getLsbD i && r.output.getLsbD i

/-- The safe image (R135 step 2). -/
def safeImage (r : Regs) : Image := { Image.allOff with lock := r.drivenHigh 5 }

/-- The power state that force safe decides (R135 step 4). -/
def forceSafeDecision (r : Regs) : Decided := if r.drivenHigh 0 then .cool else .off

/-- An adoption (R134). -/
def State.adopt (s : State) (b : BayId) (r : Regs) (d : Dirs) (dec : Decided) : State :=
  (s.modifyBay b fun x =>
    { x with target := r.decode, targetGen := x.targetGen + 1,
             confirmed := some { image := r.decode, dirs := d, gen := x.targetGen + 1 },
             chain := some { dirs := d, decided := dec } }).requestDiscovery b (.setup .seedingRead) none

/-- A force-safe decision (R135). -/
def State.forceSafe (s : State) (b : BayId) (r : Regs) (d : Dirs) : State :=
  let g := (s.bay b).targetGen + 1
  (s.modifyBay b fun x =>
    { x with target := safeImage r, targetGen := g, confirmed := none,
             chain := some { dirs := d, decided := forceSafeDecision r } }).requestDiscovery b
    (.setup .forceSafe) (some { image := safeImage r, dirs := d, gen := g })

/-- The readback of a completed SETUP_READ is judged with the chain directions (R133, R134). -/
def State.readbackJudged (s : State) (b : BayId) (r : Regs) : State :=
  let d := (s.bay b).config.auxDir
  match adoptDecision r d with
  | some dec => s.adopt b r d dec
  | none => s.forceSafe b r d

/-- A completed force-safe write confirms what it carried, and the seeding read is requested (R135). -/
def State.forceSafeDone (s : State) (b : BayId) (carried : Option Written) : State :=
  (s.modifyBay b fun x => { x with confirmed := carried }).requestDiscovery b (.setup .seedingRead) none

/-! ## Binding (R136, R137) -/

/-- The power state a decision gives (R137 step 3). -/
def Decided.power : Decided → PowerState
  | .on => .on
  | .off => .off
  | .cool => .cool

/-- The seeded inputs of a bay (R136 steps 1 to 3). -/
def State.seedInputs (s : State) (b : BayId) (levels : Half) (d : Dirs) : State :=
  (s.sampleRead b levels).modifyBay b fun x =>
    { x with accepted := (View.ofLevels levels d).seed x.accepted levels, candidate := none }

/-- The fields that binding replaces (R137 steps 1 to 3, R16). -/
def Bay.bindFields (x : Bay) (ch : Chain) : Bay :=
  { x with link := .bound, failures := 0, faultKind := .noFault, faultCount := 0, auxDirs := ch.dirs,
           idleNote := x.live.fault && ch.decided ≠ .on, power := ch.decided.power, chain := none }

/-- R137 step 5: the indicator correction and the STATE record, or the entry into COOL. -/
def State.bindPower (s : State) (b : BayId) (dec : Decided) : State :=
  match dec with
  | .cool => s.enterCool b (some .adopt)
  | .on =>
    let auto := (s.bay b).config.autoInd
    (s.updateTarget b (fun i => i.autoInd auto .on) false).enqueue (.bay b) (.state .on .adopt)
  | .off =>
    let auto := (s.bay b).config.autoInd
    (s.updateTarget b (fun i => i.autoInd auto .off) false).enqueue (.bay b) (.state .off .adopt)

/-- A bay is hunted by its bus's hunt (R127). -/
def State.hunted (s : State) (b : BayId) : Bool := (s.huntOrigin b).isSome

/-- R137 step 6: a hunted bay leaves the set, and the bound count rises by one. -/
def State.huntBound (s : State) (b : BayId) : State :=
  if s.hunted b then
    (s.modifyEngine (busOf b) fun e =>
      { e with hunt := e.hunt.map fun h => { h with bound := h.bound + 1 } }).huntLeave b
  else s

/-- The checks that follow binding, each against the state the earlier ones left (R138). -/
def State.bindChecks (s : State) (b : BayId) : State :=
  let lv := (s.bay b).live
  let s1 :=
    if (s.bay b).power = .on && (lv.fault || !lv.pgood) then
      s.takeFault b (if lv.fault then .fltInput else .pgoodLost)
    else s
  let s2 :=
    if (s1.bay b).power = .on && !(s1.bay b).accepted.present && (s1.bay b).config.surpriseOff then
      s1.powerDown b
    else s1
  let s3 := s2.autoStart b
  if ((s3.bay b).power = .off || (s3.bay b).power = .cool) && lv.fault then
    s3.enqueue (.bay b) (.fault .fltInputIdle)
  else s3

/-- The completion of the seeding read: seeding (R136), then binding (R137). -/
def State.bind (s : State) (b : BayId) (levels : Half) (ch : Chain) : State :=
  let s1 := s.seedInputs b levels ch.dirs
  let s2 := s1.modifyBay b fun x => x.bindFields ch
  let s3 := s2.enqueue (.bay b) (.link .bound .bound)
  let s4 := s3.bindPower b ch.decided
  let s5 := s4.huntBound b
  let s6 := s5.evalSweep (busOf b)
  let s7 := s6.bindChecks b
  s7.endHunt (busOf b)

end Sys2Proof.Machine
end

