-- ==== Sys2Proof/Machine/Bus.lean ====
section
/-! DEFINITION. The Expander Bus Engines (06_expander_bus_engines): begin, completions, failed attempts,
clock stretches and recovery, and the meanings of the bus events. -/

namespace Sys2Proof.Machine

/-! ## Begin (R113, R114) -/

/-- The arbiter's choice: the oldest urgent OUTPUT_WRITE, else the oldest entry; with the queue's rest
(R113). -/
def arbiter (q : List Entry) : Option (Entry × List Entry) :=
  let urgent : Entry → Bool := fun e => e.kind = .outputWrite && e.urgent
  match q.find? urgent with
  | some e => some (e, q.eraseP urgent)
  | none =>
    match q with
    | [] => none
    | e :: rest => some (e, rest)

/-- What an entry carries when it begins: an OUTPUT_WRITE takes the bay's target (R114). -/
def Entry.begun (e : Entry) (x : Bay) : Entry :=
  match e.kind with
  | .outputWrite =>
    { e with carried := some { image := x.target, dirs := x.auxDirs, gen := x.targetGen } }
  | _ => e

/-- The begin of a transaction (R113); it is due on an IDLE enabled bus with queued entries. -/
def State.beginNext (s : State) (n : BusId) : State :=
  let e := s.engine n
  match e.bus, arbiter e.queue with
  | .idle, some (x, rest) =>
    if e.config.enable then
      s.modifyEngine n fun g =>
        { g with queue := rest,
                 bus := .active { entry := x.begun (s.bay x.bay), ignored := false } 1 g.config.speed none }
    else s
  | _, _ => s

/-! ## The end of an attempt -/

/-- The transaction whose attempt is on the wire, with its attempt number, while no clock stretch is being
timed: an attempt ends only when its clock runs (R119; log entry 2). -/
def BusState.onWire : BusState → Option (Tx × Nat)
  | .active tx a _ none => some (tx, a)
  | _ => none

/-- The engine's transaction ends and the bus becomes IDLE (R116 step 2, R118). -/
def State.busIdle (s : State) (n : BusId) : State := s.modifyEngine n fun e => { e with bus := .idle }

/-- An ignored transaction ends: of its waiters the sweep alone is still to be answered (R115). -/
def State.endIgnored (s : State) (n : BusId) (tx : Tx) : State :=
  let s1 := s.busIdle n
  if tx.entry.waiters.sweep then s1.sweepLeave tx.entry.bay else s1

/-- A successful attempt of a transaction of kind `k`: its end is handed over, or ignored (R116, R8). -/
def State.completeTx (s : State) (n : BusId) (k : TxKind) (handed : State → Entry → State) : State :=
  match (s.engine n).bus.onWire with
  | none => s
  | some (tx, _) =>
    if tx.entry.kind = k then
      if tx.ignored then s.endIgnored n tx else handed (s.busIdle n) tx.entry
    else s

/-- A completed OUTPUT_WRITE: the carried image becomes the confirmed one, then the waits are tested, the
Command Unit's first (R116, R60, R61, R22). -/
def State.writeDone (s : State) (e : Entry) : State :=
  let s1 := s.modifyBay e.bay fun x => { x with confirmed := e.carried }
  (s1.awaitedTest e.bay).sequencerTest e.bay

/-- An exhausted transaction, with the bus IDLE (R118). -/
def State.exhausted (s : State) (e : Entry) : State :=
  match e.kind with
  | .probe => s.probeNotFound e.bay
  | .setup _ => s.setupFailed e.bay
  | .inputRead =>
    let s1 := s.depart e.bay .lost .noAck
    if e.waiters.sweep then s1.sweepLeave e.bay else s1
  | .outputWrite => s.depart e.bay .lost .noAck

/-- A failed attempt counts in the bay's failure count, unless it is a PROBE or ignored (R15, R115, R117). -/
def State.countFailure (s : State) (tx : Tx) : State :=
  if tx.ignored || tx.entry.kind = .probe then s
  else s.modifyBay tx.entry.bay fun x => { x with failures := satInc x.failures }

/-- An attempt fails by NACK (R117). -/
def State.nack (s : State) (n : BusId) : State :=
  match (s.engine n).bus.onWire with
  | none => s
  | some (tx, a) =>
    if tx.ignored then s.endIgnored n tx
    else
      let s1 := s.countFailure tx
      if a ≤ (s.engine n).config.retryLimit.toNat then
        s1.modifyEngine n fun e => { e with bus := .active tx (a + 1) e.config.speed none }
      else (s1.busIdle n).exhausted tx.entry

/-- An attempt fails by timeout: the transaction is held and the first recovery pass starts (R119). An
ignored transaction goes the same way and ends with the pass (R120; log entry 9). -/
def State.attemptTimeout (s : State) (n : BusId) (tx : Tx) (a : Nat) : State :=
  (s.countFailure tx).modifyEngine n fun e => { e with bus := .recovering tx a 0 e.config.speed none }

/-! ## Recovery (R120 to R122) -/

/-- A recovery pass succeeds (R120). RETRY_LIMIT is read at the end of the pass, also where a word has changed it
since the attempt failed (the model's choice, log entry 24). -/
def State.passSucceeds (s : State) (n : BusId) (tx : Tx) (a : Nat) : State :=
  if tx.ignored then s.endIgnored n tx
  else if a ≤ (s.engine n).config.retryLimit.toNat then
    s.modifyEngine n fun e => { e with bus := .active tx (a + 1) e.config.speed none }
  else (s.busIdle n).exhausted tx.entry

/-- A recovery pass fails: the next pass starts, or the third failure fails the bus (R120, R122). -/
def State.passFails (s : State) (n : BusId) (tx : Tx) (a passes : Nat) : State :=
  if passes + 1 < 3 then
    s.modifyEngine n fun e => { e with bus := .recovering tx a (passes + 1) e.config.speed none }
  else s.busDown n true

/-! ## Meanings -/

/-- BEGIN (R113, R114). -/
def execBegin (n : BusId) (s : State) : Host.Outcome State Fault Refusal := s.event (s.beginNext n)

/-- OUTPUT_WRITE_COMPLETE (R116). -/
def execOutputWriteComplete (n : BusId) (s : State) : Host.Outcome State Fault Refusal :=
  s.event (s.completeTx n .outputWrite State.writeDone)

/-- INPUT_READ_COMPLETE (R73, R116). -/
def execInputReadComplete (n : BusId) (input output direction : Half) (s : State) :
    Host.Outcome State Fault Refusal :=
  s.event (s.completeTx n .inputRead fun t e => t.readDone e.bay e.waiters input output direction)

/-- PROBE_ACKNOWLEDGED (R129). -/
def execProbeAcknowledged (n : BusId) (s : State) : Host.Outcome State Fault Refusal :=
  s.event (s.completeTx n .probe fun t e => t.probeFound e.bay)

/-- IDENT_READ_COMPLETE (R132). -/
def execIdentReadComplete (n : BusId) (ident : Byte) (s : State) : Host.Outcome State Fault Refusal :=
  s.event (s.completeTx n (.setup .identRead) fun t e => t.identJudged e.bay ident)

/-- SETUP_READ_COMPLETE (R133 to R135). -/
def execSetupReadComplete (n : BusId) (output direction blink rate : Half) (s : State) :
    Host.Outcome State Fault Refusal :=
  s.event (s.completeTx n (.setup .setupRead) fun t e =>
    t.readbackJudged e.bay { output := output, direction := direction, blink := blink, rate := rate })

/-- FORCE_SAFE_WRITE_COMPLETE (R135). -/
def execForceSafeWriteComplete (n : BusId) (s : State) : Host.Outcome State Fault Refusal :=
  s.event (s.completeTx n (.setup .forceSafe) fun t e => t.forceSafeDone e.bay e.carried)

/-- SEEDING_READ_COMPLETE (R136 to R138). The OUTPUT and DIRECTION bytes are not compared (R136 step 4). -/
def execSeedingReadComplete (n : BusId) (input _output _direction : Half) (s : State) :
    Host.Outcome State Fault Refusal :=
  s.event (s.completeTx n (.setup .seedingRead) fun t e =>
    match (t.bay e.bay).chain with
    | none => t
    | some ch => t.bind e.bay input ch)

/-- ATTEMPT_NACK (R117, R118). -/
def execAttemptNack (n : BusId) (s : State) : Host.Outcome State Fault Refusal := s.event (s.nack n)

/-- ATTEMPT_DATA_LINE_LOW: the attempt fails by timeout at once (R119). -/
def execAttemptDataLineLow (n : BusId) (s : State) : Host.Outcome State Fault Refusal :=
  s.event (match (s.engine n).bus.onWire with
    | none => s
    | some (tx, a) => s.attemptTimeout n tx a)

/-- The clock-stretch timer starts with 12 ms in an attempt or pass whose clock runs (R119). -/
def BusState.stretchStart : BusState → BusState
  | .active tx a sp none => .active tx a sp (some 12)
  | .recovering tx a p sp none => .recovering tx a p sp (some 12)
  | b => b

/-- The clock-stretch timer stops (R119). -/
def BusState.stretchStop : BusState → BusState
  | .active tx a sp _ => .active tx a sp none
  | .recovering tx a p sp _ => .recovering tx a p sp none
  | b => b

/-- CLOCK_STRETCH_DETECTED (R119). -/
def execClockStretchDetected (n : BusId) (s : State) : Host.Outcome State Fault Refusal :=
  s.event (s.modifyEngine n fun e => { e with bus := e.bus.stretchStart })

/-- CLOCK_STRETCH_RELEASE (R119). -/
def execClockStretchRelease (n : BusId) (s : State) : Host.Outcome State Fault Refusal :=
  s.event (s.modifyEngine n fun e => { e with bus := e.bus.stretchStop })

/-- CLOCK_STRETCH_TIMEOUT: the attempt fails by timeout (R119), or the recovery pass fails (R120; log
entry 10). -/
def execClockStretchTimeout (n : BusId) (s : State) : Host.Outcome State Fault Refusal :=
  s.event (match (s.engine n).bus with
    | .active tx a _ (some 0) => s.attemptTimeout n tx a
    | .recovering tx a p _ (some 0) => s.passFails n tx a p
    | _ => s)

/-- RECOVERY_PASS_END: after the stop XSDAn is high or still low (R120). -/
def execRecoveryPassEnd (n : BusId) (dataHigh : Bool) (s : State) : Host.Outcome State Fault Refusal :=
  s.event (match (s.engine n).bus with
    | .recovering tx a p _ none => if dataHigh then s.passSucceeds n tx a else s.passFails n tx a p
    | _ => s)

end Sys2Proof.Machine
end

