-- ==== Sys2Proof/Config.lean ====
section
/-! DEFINITION. What is fixed for the part, and the values the manual leaves free. -/

namespace Sys2Proof.Config

/-- The ID word (register map, 0x000). -/
def partCode : Word := 0x00000B16

/-- The revision word (register map, 0x004). -/
def revision : Word := 0x00000001

/-- FREE VALUE: bits 3 to 1 of DETAIL as a window shows them for a PRESENCE record whose class-valid
bit is 0, by the record's SEQ (Event record layout; log entry 14). -/
opaque freeClassBits : Nat → BitVec 3

/-- FREE VALUE: bits 15 to 8 of word 3 as a window shows them for a record whose MISSED is absent, by
the record's SEQ (Event record layout; log entry 14). -/
opaque freeMissedBits : Nat → Byte

end Sys2Proof.Config
end

