-- ==== Sys2Proof/Machine/Registers.lean ====
section
/-! DEFINITION. The register map (section 10.5): the registers, their addresses and access types, and
what a read of each returns. -/

namespace Sys2Proof.Machine

/-- The named words of a bay block (register map). -/
inductive BayWord where
  | config | command | commandStatus | status | accepted | sampled | sampleTime | target | confirmed
  | generations | awaited | faults
  deriving DecidableEq, Repr

/-- The registers of the window (register map). -/
inductive Reg where
  | id
  | revision
  | globalControl
  | globalCommand
  | globalStatus
  | millis
  | portStatus
  | busConfig (n : BusId)
  | busStatus (n : BusId)
  | lineControl (k : LineId)
  | take
  | queueStatus
  | lineCounts
  | noneCount
  | missed (i : Fin 5)
  | routing (i : SourceId)
  | profileA (p : ProfileId)
  | profileB (p : ProfileId)
  | classMap
  | window (k : Fin 5) (word : Fin 4)
  | bay (b : BayId) (word : BayWord)
  deriving DecidableEq, Repr

/-- The access types (R174). -/
inductive Access where
  | readWrite | writeOnly | readOnly | writeOneToClear
  deriving DecidableEq, Repr

/-! ## Addresses -/

/-- The offset of a word in its bay block (register map). -/
def BayWord.offset : BayWord → Nat
  | .config => 0x00 | .command => 0x04 | .commandStatus => 0x08 | .status => 0x0C | .accepted => 0x10
  | .sampled => 0x14 | .sampleTime => 0x18 | .target => 0x1C | .confirmed => 0x20
  | .generations => 0x24 | .awaited => 0x28 | .faults => 0x2C

/-- The bay word at an offset of a bay block, if the map names one. -/
def BayWord.ofOffset (o : Nat) : Option BayWord :=
  match o with
  | 0x00 => some .config | 0x04 => some .command | 0x08 => some .commandStatus | 0x0C => some .status
  | 0x10 => some .accepted | 0x14 => some .sampled | 0x18 => some .sampleTime | 0x1C => some .target
  | 0x20 => some .confirmed | 0x24 => some .generations | 0x28 => some .awaited | 0x2C => some .faults
  | _ => none

/-- The address of a register (register map). -/
def Reg.offset : Reg → Nat
  | .id => 0x000
  | .revision => 0x004
  | .globalControl => 0x008
  | .globalCommand => 0x00C
  | .globalStatus => 0x010
  | .millis => 0x014
  | .portStatus => 0x018
  | .busConfig n => 0x020 + 8 * n.val
  | .busStatus n => 0x024 + 8 * n.val
  | .lineControl k => 0x040 + 4 * k.val
  | .take => 0x050
  | .queueStatus => 0x054
  | .lineCounts => 0x058
  | .noneCount => 0x05C
  | .missed i => 0x060 + 4 * i.val
  | .routing i => 0x080 + 4 * i.val
  | .profileA p => 0x100 + 8 * p.val
  | .profileB p => 0x104 + 8 * p.val
  | .classMap => 0x120
  | .window k w => 0x200 + 16 * k.val + 4 * w.val
  | .bay b w => 0x400 + 64 * b.val + w.offset

def Reg.addr (r : Reg) : Addr := BitVec.ofNat 12 r.offset

/-- The register at an address, if the map names one: an address that it does not name is reserved
(R174). -/
def regAt (a : Addr) : Option Reg :=
  let n := a.toNat
  if n % 4 ≠ 0 then none
  else if n = 0x000 then some .id
  else if n = 0x004 then some .revision
  else if n = 0x008 then some .globalControl
  else if n = 0x00C then some .globalCommand
  else if n = 0x010 then some .globalStatus
  else if n = 0x014 then some .millis
  else if n = 0x018 then some .portStatus
  else if n = 0x020 then some (.busConfig 0)
  else if n = 0x024 then some (.busStatus 0)
  else if n = 0x028 then some (.busConfig 1)
  else if n = 0x02C then some (.busStatus 1)
  else if h : 0x040 ≤ n ∧ n < 0x050 then some (.lineControl ⟨(n - 0x040) / 4, by omega⟩)
  else if n = 0x050 then some .take
  else if n = 0x054 then some .queueStatus
  else if n = 0x058 then some .lineCounts
  else if n = 0x05C then some .noneCount
  else if h : 0x060 ≤ n ∧ n < 0x074 then some (.missed ⟨(n - 0x060) / 4, by omega⟩)
  else if h : 0x080 ≤ n ∧ n < 0x0CC then some (.routing ⟨(n - 0x080) / 4, by omega⟩)
  else if h : 0x100 ≤ n ∧ n < 0x120 then
    if n % 8 = 0 then some (.profileA ⟨(n - 0x100) / 8, by omega⟩)
    else some (.profileB ⟨(n - 0x100) / 8, by omega⟩)
  else if n = 0x120 then some .classMap
  else if h : 0x200 ≤ n ∧ n < 0x250 then
    some (.window ⟨(n - 0x200) / 16, by omega⟩ ⟨n % 16 / 4, by omega⟩)
  else if h : 0x400 ≤ n ∧ n < 0x800 then
    (BayWord.ofOffset (n % 64)).map fun w => .bay ⟨(n - 0x400) / 64, by omega⟩ w
  else none

/-- The access type of a register (register map). -/
def Reg.access : Reg → Access
  | .globalControl => .writeOnly
  | .globalCommand => .writeOnly
  | .globalStatus => .writeOneToClear
  | .portStatus => .writeOneToClear
  | .busConfig _ => .readWrite
  | .lineControl _ => .readWrite
  | .take => .writeOnly
  | .queueStatus => .writeOneToClear
  | .routing _ => .readWrite
  | .profileA _ => .readWrite
  | .profileB _ => .readWrite
  | .classMap => .readWrite
  | .bay _ .config => .readWrite
  | .bay _ .command => .writeOnly
  | _ => .readOnly

/-! ## What a read returns (R171, R174, R178, R179; log entry 14) -/

/-- A count as its field of `len` bits holds it; no count of a run from reset outgrows its field. -/
def inField (len v : Nat) : Nat := v % 2 ^ len

/-- The value of an optional field: a field that is absent reads 0 (log entry 14). -/
def optNat (o : Option Nat) : Nat := o.getD 0

/-- The global command status word. -/
def State.globalStatusWord (s : State) : Word :=
  packWord [(0, s.globalStatus.code.toNat), (8, s.globalStatus.result.code), (16, s.globalStatus.tag.toNat),
    (24, flagNat (s.engine 0).hunt.isSome), (25, flagNat (s.engine 1).hunt.isSome),
    (28, flagNat s.routeConflict)]

/-- The port status word. -/
def PortFlags.toWord (f : PortFlags) : Word :=
  packWord [(0, flagNat f.frameShort), (1, flagNat f.badAddress), (2, flagNat f.readOnlyWrite),
    (3, flagNat f.configRefused)]

/-- The attempt number that the bus status word shows (R107). -/
def BusState.attemptNumber : BusState → Nat
  | .active _ a _ _ => a
  | .recovering _ a _ _ _ => a
  | _ => 0

/-- The consecutive failed passes that the bus status word shows (R107). -/
def BusState.failedPasses : BusState → Nat
  | .recovering _ _ p _ _ => p
  | _ => 0

/-- The bus status word (R107). -/
def State.busStatusWord (s : State) (n : BusId) : Word :=
  let e := s.engine n
  packWord [(0, e.bus.code), (4, inField 5 e.queue.length), (9, flagNat e.bus.current.isSome),
    (10, optNat (e.bus.current.map fun tx => tx.entry.kind.code)),
    (12, optNat (e.bus.current.map fun tx => tx.entry.bay.val % 8)), (16, inField 4 e.bus.attemptNumber),
    (20, inField 2 e.bus.failedPasses), (24, flagNat s.alerts[n]), (25, flagNat e.sweep.isSome)]

/-- The line control word (R168). -/
def State.lineWord (s : State) (k : LineId) : Word :=
  let l := s.lines[k]
  packWord [(0, flagNat l.enable), (1, flagNat l.pulse), (2, flagNat l.activeHigh),
    (8, flagNat (s.lineAsserted k)), (9, l.phase.code), (11, flagNat l.owed)]

/-- The queue status word (R146, R151). -/
def EventQueue.statusWord (q : EventQueue) : Word :=
  packWord [(0, flagNat q.overflow), (8, inField 6 q.records.length), (16, q.seqCounter.toNat)]

/-- The per-line counts word (R157). -/
def EventQueue.countsWord (q : EventQueue) : Word :=
  packWord [(0, inField 6 (q.lineCount (some 0))), (8, inField 6 (q.lineCount (some 1))),
    (16, inField 6 (q.lineCount (some 2))), (24, inField 6 (q.lineCount (some 3)))]

/-- The missed count of a source index, as a byte of a missed count word; an index past 18 reads 0. -/
def EventQueue.missedByte (q : EventQueue) (i : Nat) : Nat :=
  if h : i < 19 then q.missed[i].toNat else 0

/-- A missed count word: byte j is the count of source index 4i + j (register map). -/
def EventQueue.missedWord (q : EventQueue) (i : Fin 5) : Word :=
  packWord [(0, q.missedByte (4 * i.val)), (8, q.missedByte (4 * i.val + 1)),
    (16, q.missedByte (4 * i.val + 2)), (24, q.missedByte (4 * i.val + 3))]

/-- Word 2 of a record (Event record layout). The class bits of a PRESENCE record without a class are a
free value (log entry 14). -/
def Record.detailWord (r : Record) : Word :=
  match r.detail with
  | .presence p c =>
    packWord [(0, flagNat p), (1, (c.getD (Config.freeClassBits r.seq.toNat)).toNat), (4, flagNat c.isSome)]
  | .latch c => packWord [(0, flagNat c)]
  | .button => packWord [(0, 1)]
  | .aux a b => packWord [(0, flagNat a), (1, flagNat b)]
  | .state p c => packWord [(0, p.code), (4, c.code)]
  | .link l c => packWord [(0, l.code), (4, c.code)]
  | .command c t res => packWord [(0, c.code), (8, t.toNat), (16, res.code)]
  | .fault k => packWord [(0, k.code)]
  | .bus failed => packWord [(0, if failed then 3 else 0)]
  | .huntDone n f b => packWord [(0, n.val), (8, inField 4 f), (16, inField 4 b)]

/-- One word of a record in a window (Event record layout). The MISSED bits of a record without MISSED
are a free value (log entry 14). -/
def Record.word (r : Record) (i : Fin 4) : Word :=
  if i = 0 then
    packWord [(0, r.seq.toNat), (16, r.detail.kind.code), (20, r.source.index.val), (25, lineCode r.line),
      (30, flagNat r.missed.isSome), (31, 1)]
  else if i = 1 then r.time
  else if i = 2 then r.detailWord
  else packWord [(0, r.count.toNat), (8, (r.missed.getD (Config.freeMissedBits r.seq.toNat)).toNat)]

/-- One word of a take window; all four read 0 when it is EMPTY (R178). -/
def EventQueue.windowWord (q : EventQueue) (k : Fin 5) (i : Fin 4) : Word :=
  match q.windows[k] with
  | none => 0
  | some r => r.word i

/-- The fields that the target and confirmed image words share. -/
def Image.fields (i : Image) : List (Nat × Nat) :=
  [(0, flagNat i.pwrEn), (1, flagNat i.clkEn), (2, flagNat i.released), (4, i.indP.code), (6, i.indA.code),
    (8, flagNat i.lock), (9, flagNat i.aux0), (10, flagNat i.aux1)]

/-- The candidate code of the accepted inputs word. -/
def candidateCode : Option Candidate → Nat
  | none => 0
  | some c => match c.phase with
    | .timing _ => 1
    | .confirming => 2

/-- The code that the command status word shows: 0 for none. -/
def Slot.codeNat (sl : Slot) : Nat := optNat (sl.code.map BayCommand.code)

/-- A word of a bay block (section 10.5). The command register reads 0 (R178). -/
def Bay.word (x : Bay) : BayWord → Word
  | .config => x.config.toWord
  | .command => 0
  | .commandStatus =>
    packWord [(0, flagNat x.slot.inProgress), (4, x.slot.codeNat), (8, x.slot.tag.toNat),
      (16, x.slot.lastResult.code), (24, x.slot.resultTag.toNat)]
  | .status =>
    packWord [(0, x.link.code), (3, x.power.code), (7, SeqStep.code x.step),
      (9, match x.profile with | some p => p.val | none => 7), (12, flagNat x.pendingUp),
      (13, flagNat x.idleNote), (14, flagNat x.timer.isSome), (15, flagNat x.slot.awaited.isSome),
      (16, flagNat x.stepGen.isSome), (17, flagNat x.confirmed.isSome), (18, flagNat x.sampled.isSome)]
  | .accepted =>
    packWord [(0, flagNat x.accepted.present), (1, flagNat x.accepted.latchClosed),
      (2, flagNat x.accepted.pressed), (3, flagNat x.accepted.aux0), (4, flagNat x.accepted.aux1),
      (8, optNat (x.accepted.moduleClass.map BitVec.toNat)), (11, flagNat x.accepted.moduleClass.isSome),
      (12, candidateCode x.candidate), (14, flagNat x.auxDirs.aux0), (15, flagNat x.auxDirs.aux1)]
  | .sampled =>
    packWord [(0, optNat (x.sampled.map fun m => m.levels.toNat)), (16, flagNat x.live.fault),
      (17, flagNat x.live.pgood)]
  | .sampleTime => (x.sampled.map Sample.time).getD 0
  | .target => packWord x.target.fields
  | .confirmed =>
    match x.confirmed with
    | none => 0
    | some w => packWord (w.image.fields ++ [(12, flagNat w.dirs.aux0), (13, flagNat w.dirs.aux1), (31, 1)])
  | .generations =>
    packWord [(0, x.targetGen.toNat), (16, optNat (x.confirmed.map fun w => w.gen.toNat))]
  | .awaited =>
    packWord [(0, optNat (x.slot.awaited.map BitVec.toNat)), (16, optNat (x.stepGen.map BitVec.toNat))]
  | .faults => packWord [(0, x.faultKind.code), (8, x.faultCount.toNat), (16, x.failures.toNat)]

/-- The value of a register at the moment of a read; a write-only register reads 0 (R171, R174). -/
def State.readReg (s : State) : Reg → Word
  | .id => Config.partCode
  | .revision => Config.revision
  | .globalControl => 0
  | .globalCommand => 0
  | .globalStatus => s.globalStatusWord
  | .millis => s.millis
  | .portStatus => s.port.flags.toWord
  | .busConfig n => (s.engine n).config.toWord
  | .busStatus n => s.busStatusWord n
  | .lineControl k => s.lineWord k
  | .take => 0
  | .queueStatus => s.events.statusWord
  | .lineCounts => s.events.countsWord
  | .noneCount => packWord [(0, inField 6 (s.events.lineCount none))]
  | .missed i => s.events.missedWord i
  | .routing i => (s.routing[i]).toWord
  | .profileA p => (s.profiles[p]).wordA
  | .profileB p => (s.profiles[p]).wordB
  | .classMap => classMapWord s.classMap
  | .window k i => s.events.windowWord k i
  | .bay b w => (s.bay b).word w

/-- What a read data word at an address returns; a reserved address reads 0 (R171, R174). -/
def State.readWord (s : State) (a : Addr) : Word :=
  match regAt a with
  | none => 0
  | some r => s.readReg r

/-- The words of a read burst of `n` words from an address on, with no event between them: each later
word is at the address plus 4, and the address after 0xFFC is 0x000 (R169, R171). -/
def State.readBurst (s : State) : Nat → Addr → List Word
  | 0, _ => []
  | n + 1, a => s.readWord a :: s.readBurst n (a + 4)

end Sys2Proof.Machine
end

