-- ==== Sys2Proof/Machine/Commands.lean ====
section
/-! DEFINITION. The Command Unit (03_bay_commands): the checks of a command word, refusal, acceptance and
the first effect of each command. -/

namespace Sys2Proof.Machine

/-! ## The checks (R51 to R56) -/

/-- A command word may not enter the slot: a command is in progress, and the word is no POWER_OFF over a
POWER_ON (R54). -/
def Slot.blocks (sl : Slot) (c : BayCommand) : Bool :=
  sl.inProgress && !(c = .powerOff && sl.code = some .powerOn)

/-- The command-specific check of POWER_ON, tests a to d (R55). -/
def State.powerOnCheck (s : State) (b : BayId) : Option CommandResult :=
  let x := s.bay b
  if !(x.power = .off || x.power = .cool || x.power = .drain) then some .badState
  else if !x.accepted.present then some .noModule
  else if !(x.accepted.latchClosed || !x.config.latchOff) then some .latchOpen
  else if (s.classProfile b).isNone then some .classDenied
  else none

/-- The command-specific check of a command (R55, R56). -/
def State.specificCheck (s : State) (b : BayId) (c : BayCommand) : Option CommandResult :=
  let x := s.bay b
  match c with
  | .powerOn => s.powerOnCheck b
  | .unlock => if x.power = .off || x.power = .cool || x.power = .faulted then none else some .badState
  | .clearFault => if x.power = .faulted && !x.live.fault then none else some .badState
  | _ => none

/-- The result of the first check of R51 that a word with a defined code fails; none when it passes all. -/
def State.commandCheck (s : State) (b : BayId) (c : BayCommand) (args : CommandArgs) :
    Option CommandResult :=
  if !c.argsWellFormed args then some .badCommand
  else if (s.bay b).link ≠ .bound then some .notBound
  else if (s.bay b).slot.blocks c then some .busy
  else s.specificCheck b c

/-- A refusal: the last result and the result tag, and nothing else (R57). -/
def State.refuseCommand (s : State) (b : BayId) (r : CommandResult) (tag : Byte) : State :=
  s.modifyBay b fun x => { x with slot := { x.slot with lastResult := r, resultTag := tag } }

/-! ## Acceptance (R58, R60) -/

/-- The slot takes an accepted command (R58 step 2). -/
def State.takeSlot (s : State) (b : BayId) (c : BayCommand) (tag : Byte) : State :=
  s.modifyBay b fun x =>
    { x with slot := { inProgress := true, code := some c, tag := tag, awaited := none,
                       lastResult := .accepted, resultTag := tag } }

/-- The command in progress awaits a generation; it completes at once when that is reached (R60). -/
def State.await (s : State) (b : BayId) (g : Option Half) : State :=
  (s.modifyBay b fun x => { x with slot := { x.slot with awaited := g } }).awaitedTest b

/-- An output command makes one update and awaits the target generation that results (R60). -/
def State.outputEffect (s : State) (b : BayId) (f : Image → Image) : State :=
  let t := s.updateTarget b f false
  t.await b (some (t.bay b).targetGen)

/-! ## First effects (R62 to R69) -/

/-- POWER_ON (R38, R62). -/
def State.powerOnEffect (s : State) (b : BayId) : State :=
  match (s.bay b).power with
  | .off => s.beginPowerUp b
  | .cool => s.modifyBay b fun x => { x with pendingUp := true }
  | .drain => s.modifyBay b fun x => { x with pendingUp := true }
  | _ => s

/-- The first stage of POWER_OFF: a POWER_ON in progress ends ABORTED, a held one losing its pending flag
(R39, R63). -/
def State.overtakePowerOn (s : State) (b : BayId) : State :=
  if (s.bay b).slot.runs .powerOn then
    (s.modifyBay b fun x => { x with pendingUp := false }).completeCommand b .aborted
  else s

/-- The second stage of POWER_OFF; `held` says that a held power-up was withdrawn (R39, R63). -/
def State.powerOffEffect (s : State) (b : BayId) (held : Bool) : State :=
  match (s.bay b).power with
  | .ramp | .clock | .on => s.powerDown b
  | .drain => if held then s.completeCommand b .done else s
  | .cool | .off => s.completeCommand b .done
  | .faulted => s.await b (s.bay b).stepGen
  | .unknown => s

/-- The update of SET_IND (R64). -/
def setIndUpdate (c : BayConfig) (args : CommandArgs) (i : Image) : Image :=
  { i with indA := IndMode.ofBits args.indA, indP := if c.autoInd then i.indP else IndMode.ofBits args.indP }

/-- The update of SET_AUX: the lines whose effective direction is output (R67). -/
def setAuxUpdate (d : Dirs) (args : CommandArgs) (i : Image) : Image :=
  { i with aux0 := if d.aux0 then args.aux0 else i.aux0, aux1 := if d.aux1 then args.aux1 else i.aux1 }

/-- The updates of LOCK and UNLOCK (R65, R66). -/
def lockUpdate (engaged : Bool) (i : Image) : Image := { i with lock := engaged }

/-- REFRESH: the command waits on the read it requests (R69). -/
def State.refreshEffect (s : State) (b : BayId) : State :=
  s.requestRead b { Waiters.none with refresh := true }

/-- The first effect of a command other than POWER_OFF, once it stands in the slot (R62 to R69). -/
def State.firstEffect (s : State) (b : BayId) (c : BayCommand) (args : CommandArgs) (held : Bool) : State :=
  match c with
  | .powerOn => s.powerOnEffect b
  | .powerOff => s.powerOffEffect b held
  | .setInd => s.outputEffect b (setIndUpdate (s.bay b).config args)
  | .lock => s.outputEffect b (lockUpdate true)
  | .unlock => s.outputEffect b (lockUpdate false)
  | .setAux => s.outputEffect b (setAuxUpdate (s.bay b).auxDirs args)
  | .clearFault => s.await b (s.bay b).stepGen
  | .refresh => s.refreshEffect b

/-- The acceptance of a command (R58). -/
def State.acceptCommand (s : State) (b : BayId) (c : BayCommand) (tag : Byte) (args : CommandArgs) : State :=
  let held := (s.bay b).slot.runs .powerOn
  ((s.overtakePowerOn b).takeSlot b c tag).firstEffect b c args held

/-- A bay command word with a defined code at the Command Unit (R51, R57, R58). -/
def State.takeCommand (s : State) (b : BayId) (c : BayCommand) (tag : Byte) (args : CommandArgs) : State :=
  match s.commandCheck b c args with
  | some r => s.refuseCommand b r tag
  | none => s.acceptCommand b c tag args

/-- A bay command word with any code (R51, R52). -/
def State.takeCommandCode (s : State) (b : BayId) (code : BitVec 4) (tag : Byte) (args : CommandArgs) : State :=
  match BayCommand.ofCode code with
  | none => s.refuseCommand b .badCommand tag
  | some c => s.takeCommand b c tag args

/-! ## Meanings -/

/-- The address of a bay's command register (register map). -/
def commandAddr (b : BayId) : Addr := (Reg.bay b .command).addr

/-- POWER_ON (R55, R62). -/
def execPowerOn (b : BayId) (tag : Byte) (args : CommandArgs) (s : State) : Host.Outcome State Fault Refusal :=
  s.wordEvent (commandAddr b) fun t => t.takeCommand b .powerOn tag args

/-- POWER_OFF (R39, R63). -/
def execPowerOff (b : BayId) (tag : Byte) (args : CommandArgs) (s : State) : Host.Outcome State Fault Refusal :=
  s.wordEvent (commandAddr b) fun t => t.takeCommand b .powerOff tag args

/-- SET_IND (R64). -/
def execSetInd (b : BayId) (tag : Byte) (args : CommandArgs) (s : State) : Host.Outcome State Fault Refusal :=
  s.wordEvent (commandAddr b) fun t => t.takeCommand b .setInd tag args

/-- LOCK (R65). -/
def execLock (b : BayId) (tag : Byte) (args : CommandArgs) (s : State) : Host.Outcome State Fault Refusal :=
  s.wordEvent (commandAddr b) fun t => t.takeCommand b .lock tag args

/-- UNLOCK (R66). -/
def execUnlock (b : BayId) (tag : Byte) (args : CommandArgs) (s : State) : Host.Outcome State Fault Refusal :=
  s.wordEvent (commandAddr b) fun t => t.takeCommand b .unlock tag args

/-- SET_AUX (R67). -/
def execSetAux (b : BayId) (tag : Byte) (args : CommandArgs) (s : State) : Host.Outcome State Fault Refusal :=
  s.wordEvent (commandAddr b) fun t => t.takeCommand b .setAux tag args

/-- CLEAR_FAULT (R46, R68). -/
def execClearFault (b : BayId) (tag : Byte) (args : CommandArgs) (s : State) : Host.Outcome State Fault Refusal :=
  s.wordEvent (commandAddr b) fun t => t.takeCommand b .clearFault tag args

/-- REFRESH (R69). -/
def execRefresh (b : BayId) (tag : Byte) (args : CommandArgs) (s : State) : Host.Outcome State Fault Refusal :=
  s.wordEvent (commandAddr b) fun t => t.takeCommand b .refresh tag args

/-- UNDEFINED_BAY_COMMAND (R52). -/
def execUndefinedBayCommand (b : BayId) (code : BitVec 4) (tag : Byte) (args : CommandArgs) (s : State) :
    Host.Outcome State Fault Refusal :=
  s.wordEvent (commandAddr b) fun t => t.takeCommandCode b code tag args

end Sys2Proof.Machine
end

