-- ==== Sys2Proof/Machine/Configuration.lean ====
section
/-! DEFINITION. Configuration words: the bay configuration with the release from management
(01_the_bay_table), profiles and Class Map (02), bus configuration (06), routing entries and line controls
(09). -/

namespace Sys2Proof.Machine

/-! ## Bay configuration (R4 to R8) -/

/-- The states in which R8 refuses a release. -/
def Bay.releaseRefused (x : Bay) : Bool :=
  match x.power with
  | .ramp | .clock | .on | .drain => true
  | .faulted => !x.stepReached
  | _ => false

/-- The bay's transaction in flight or held is ignored when it ends (R8, R115). -/
def State.ignoreCurrent (s : State) (b : BayId) : State :=
  match (s.engine (busOf b)).bus.current with
  | none => s
  | some tx => if tx.entry.bay = b then s.modifyEngine (busOf b) fun e => { e with bus := e.bus.ignore } else s

/-- The release of a bay from management, by its link state (R8). -/
def State.release (s : State) (b : BayId) : State :=
  let s1 := s.ignoreCurrent b
  match (s.bay b).link with
  | .bound => s1.depart b .absent .released
  | .probing | .setup =>
    let s2 := (s1.modifyBay b fun x => { x with link := .absent, chain := none }).dropEntries b
    ((s2.enqueue (.bay b) (.link .absent .released)).huntLeave b).endHunt (busOf b)
  | .lost => (s1.modifyBay b fun x => { x with link := .absent }).enqueue (.bay b) (.link .absent .released)
  | .absent => s1

/-- AUTO_IND has changed from 0 to 1 (R6). -/
def State.correctIndicator (s : State) (b : BayId) : State :=
  if (s.bay b).link = .bound then
    match (s.bay b).indicatorMode with
    | none => s
    | some m => s.updateTarget b (fun i => { i with indP := m }) false
  else s

/-- A bay configuration word (R4): refused, or every field taken and the changes acting in the order
release, AUTO_ON, AUTO_IND (R5, R6, R8; log entry 11). -/
def State.writeBayConfig (s : State) (b : BayId) (w : Word) : State :=
  let c := BayConfig.ofWord w
  let old := (s.bay b).config
  let releasing := old.managed && !c.managed
  if c.debounce = 0 || (releasing && (s.bay b).releaseRefused) then s.setConfigRefused
  else
    let s1 := s.modifyBay b fun x => { x with config := c }
    let s2 := if releasing then s1.release b else s1
    let s3 := if !old.autoOn && c.autoOn then s2.autoStart b else s2
    if !old.autoInd && c.autoInd then s3.correctIndicator b else s3

/-- BAY_CONFIGURATION_WRITE (R4). -/
def execBayConfigurationWrite (b : BayId) (w : Word) (s : State) : Host.Outcome State Fault Refusal :=
  s.wordEvent (Reg.bay b .config).addr fun t => t.writeBayConfig b w

/-! ## Profiles and Class Map (R19, R21) -/

/-- A profile word: word A is refused when it would set RAMP_TIME or CLK_TO_RST to 0 (R19). -/
def State.writeProfile (s : State) (p : ProfileId) (wordB : Bool) (w : Word) : State :=
  let q := if wordB then (s.profiles[p]).withWordB w else (s.profiles[p]).withWordA w
  if !wordB && (q.rampTime = 0 || q.clkToRst = 0) then s.setConfigRefused
  else { s with profiles := s.profiles.set p q }

/-- PROFILE_WRITE (R19). -/
def execProfileWrite (p : ProfileId) (wordB : Bool) (w : Word) (s : State) : Host.Outcome State Fault Refusal :=
  s.wordEvent (if wordB then (Reg.profileB p).addr else (Reg.profileA p).addr) fun t => t.writeProfile p wordB w

/-- The class map word (R21). -/
def State.writeClassMap (s : State) (w : Word) : State :=
  match classMapOf w with
  | none => s.setConfigRefused
  | some m => { s with classMap := m }

/-- CLASS_MAP_WRITE (R21). -/
def execClassMapWrite (w : Word) (s : State) : Host.Outcome State Fault Refusal :=
  s.wordEvent Reg.classMap.addr fun t => t.writeClassMap w

/-! ## Bus configuration (R106, R91, R124) -/

/-- A bus configuration word: refused for an undefined SPEED, or every field taken; then a changed
POLL_INTERVAL restarts the poll timer (R91) and a cleared ENABLE ends the bus's work (R124). -/
def State.writeBusConfig (s : State) (n : BusId) (w : Word) : State :=
  match BusConfig.ofWord w with
  | none => s.setConfigRefused
  | some c =>
    let old := (s.engine n).config
    let s1 := s.modifyEngine n fun e =>
      { e with config := c,
               poll := if c.pollInterval = old.pollInterval then e.poll else pollTicks c.pollInterval }
    if old.enable && !c.enable && (s.engine n).bus ≠ .failed then s1.busDown n false else s1

/-- BUS_CONFIGURATION_WRITE (R106). -/
def execBusConfigurationWrite (n : BusId) (w : Word) (s : State) : Host.Outcome State Fault Refusal :=
  s.wordEvent (Reg.busConfig n).addr fun t => t.writeBusConfig n w

/-! ## Routing entries (R160) -/

/-- Another entry of the table than that of `i` satisfies `p` (R160). -/
def State.otherRoute (s : State) (i : SourceId) (p : Route → Bool) : Bool :=
  (List.finRange 19).any fun j => j ≠ i && p s.routing[j]

/-- The written route conflicts with an exclusive claim (R160, cases 2 and 3). -/
def State.routeConflicts (s : State) (i : SourceId) (r : Route) : Bool :=
  r.line.isSome &&
    (s.otherRoute i (fun o => o.line = r.line && o.excl) || (r.excl && s.otherRoute i fun o => o.line = r.line))

/-- A routing entry word (R160). -/
def State.writeRoute (s : State) (i : SourceId) (w : Word) : State :=
  match Route.ofWord w with
  | none => s.setConfigRefused
  | some r =>
    if s.routeConflicts i r then { s with routeConflict := true }
    else { s with routing := s.routing.set i r }

/-- ROUTING_ENTRY_WRITE (R160). -/
def execRoutingEntryWrite (i : SourceId) (w : Word) (s : State) : Host.Outcome State Fault Refusal :=
  s.wordEvent (Reg.routing i).addr fun t => t.writeRoute i w

/-! ## Line controls (R166) -/

/-- A line after a line control word, by its count of queued records (R166). -/
def Line.written (l : Line) (w : Word) (count : Nat) : Line :=
  let fields : Line := { l with enable := bitOf w 0, pulse := bitOf w 1, activeHigh := bitOf w 2 }
  let quiet : Line := { fields with phase := .quiet, owed := false }
  if fields.pulsing then
    if l.pulsing then fields
    else if 0 < count then quiet.cause
    else quiet
  else quiet

/-- A line control word (R162, R166). -/
def State.writeLine (s : State) (k : LineId) (w : Word) : State :=
  s.modifyLine k fun l => l.written w (s.events.lineCount (some k))

/-- LINE_CONTROL_WRITE (R166). -/
def execLineControlWrite (k : LineId) (w : Word) (s : State) : Host.Outcome State Fault Refusal :=
  s.wordEvent (Reg.lineControl k).addr fun t => t.writeLine k w

end Sys2Proof.Machine
end

