-- ==== Sys2Proof/Machine/Events.lean ====
section
/-! DEFINITION. The host's side of the Event Queue and the Notification Router (08, 09): takes, the flags
that writing 1 clears, and the ends of the pulse phases. -/

namespace Sys2Proof.Machine

/-! ## Takes (R153 to R155) -/

/-- A take on a window: the record held is discarded, and the oldest record that the window asks for moves
into it (R153, R154). -/
def EventQueue.take (q : EventQueue) (win : Fin 5) (wants : Record → Bool) : EventQueue :=
  { q with records := q.records.eraseP wants, windows := q.windows.set win (q.records.find? wants) }

/-- The line a take is told of, when it found a record tagged with one (R153, R154). -/
def EventQueue.takenLine (q : EventQueue) (wants : Record → Bool) : Option LineId :=
  (q.records.find? wants).bind Record.line

/-- A take, with its pulse cause when it leaves records of the line (R165, third cause). -/
def State.takeRecord (s : State) (win : Fin 5) (wants : Record → Bool) : State :=
  let t : State := { s with events := s.events.take win wants }
  match s.events.takenLine wants with
  | none => t
  | some k => if 0 < t.events.lineCount (some k) then t.modifyLine k Line.cause else t

/-- A TAKE word, by its window number: 0 to 3 a line's window, 4 the ANY window, 5 to 7 refused (R153 to
R155). -/
def State.writeTake (s : State) (w : Word) : State :=
  let number := fieldOf w 0 3
  if h : number.toNat < 4 then
    s.takeRecord ⟨number.toNat, by omega⟩ fun r => r.line = some ⟨number.toNat, h⟩
  else if number = 4 then s.takeRecord 4 fun _ => true
  else s.setConfigRefused

/-- TAKE_LINE_WINDOW (R153, R155). -/
def execTakeLineWindow (w : Word) (s : State) : Host.Outcome State Fault Refusal :=
  s.wordEvent Reg.take.addr fun t => t.writeTake w

/-- TAKE_ANY_WINDOW (R154, R155). -/
def execTakeAnyWindow (w : Word) (s : State) : Host.Outcome State Fault Refusal :=
  s.wordEvent Reg.take.addr fun t => t.writeTake w

/-! ## Flags cleared by writing 1 (R151, R160, R175) -/

/-- The queue status word clears OVERFLOW (R151). -/
def State.clearOverflow (s : State) (w : Word) : State :=
  { s with events := { s.events with overflow := s.events.overflow && !bitOf w 0 } }

/-- OVERFLOW_CLEAR (R151). -/
def execOverflowClear (w : Word) (s : State) : Host.Outcome State Fault Refusal :=
  s.wordEvent Reg.queueStatus.addr fun t => t.clearOverflow w

/-- The global command status word clears ROUTE_CONFLICT (R160). -/
def State.clearRouteConflict (s : State) (w : Word) : State :=
  { s with routeConflict := s.routeConflict && !bitOf w 28 }

/-- ROUTE_CONFLICT_CLEAR (R160). -/
def execRouteConflictClear (w : Word) (s : State) : Host.Outcome State Fault Refusal :=
  s.wordEvent Reg.globalStatus.addr fun t => t.clearRouteConflict w

/-- The port status word clears the flags written 1 (R175). -/
def State.clearPortErrors (s : State) (w : Word) : State :=
  { s with port := { s.port with flags := s.port.flags.clearedBy w } }

/-- PORT_ERROR_CLEAR (R175). -/
def execPortErrorClear (w : Word) (s : State) : Host.Outcome State Fault Refusal :=
  s.wordEvent Reg.portStatus.addr fun t => t.clearPortErrors w

/-! ## Pulse phases (R164) -/

/-- The pulse timer expires in HIGH (R164). -/
def Line.highEnd (l : Line) : Line :=
  if l.phase = .high then
    if l.owed then { l with phase := .gap, owed := false } else { l with phase := .quiet }
  else l

/-- The pulse timer expires in GAP (R164). -/
def Line.gapEnd (l : Line) (count : Nat) : Line :=
  if l.phase = .gap then
    { l with owed := false, phase := if l.pulsing && 0 < count then .high else .quiet }
  else l

/-- PULSE_HIGH_END (R164). -/
def execPulseHighEnd (k : LineId) (s : State) : Host.Outcome State Fault Refusal :=
  s.event (s.modifyLine k Line.highEnd)

/-- PULSE_GAP_END (R164). -/
def execPulseGapEnd (k : LineId) (s : State) : Host.Outcome State Fault Refusal :=
  s.event (s.modifyLine k fun l => l.gapEnd (s.events.lineCount (some k)))

end Sys2Proof.Machine
end

