-- ==== Sys2Proof/Machine/Global.lean ====
section
/-! DEFINITION. The global command register (R176) with HUNT (R131) and BUS_RESTART (R123). -/

namespace Sys2Proof.Machine

/-- The buses that a mask names, bus 0 first. -/
def maskBuses (m : BusMask) : List BusId :=
  (if m.bus0 then [0] else []) ++ (if m.bus1 then [1] else [])

/-- The answer to a HUNT (R131). -/
def State.huntResult (s : State) (m : BusMask) : CommandResult :=
  if (maskBuses m).isEmpty then .badCommand
  else if !((maskBuses m).all fun n => (s.engine n).takes) then .badState
  else if (maskBuses m).any (fun n => (s.engine n).hunt.isSome) then .busy
  else .done

/-- The answer to a BUS_RESTART (R123, R176). -/
def State.restartResult (s : State) (m : BusMask) : CommandResult :=
  match maskBuses m with
  | [n] => if (s.engine n).config.enable then .done else .badState
  | _ => .badCommand

/-- The global command status is replaced (R176). -/
def State.answerGlobal (s : State) (code : BitVec 4) (r : CommandResult) (tag : Byte) : State :=
  { s with globalStatus := { code := code, result := r, tag := tag } }

/-- An accepted BUS_RESTART of a bus (R123). -/
def State.restartBus (s : State) (n : BusId) : State := (s.busDown n false).startHunt n

/-- HUNT (R131): a hunt starts on each named bus, bus 0 first. -/
def State.takeHunt (s : State) (m : BusMask) (tag : Byte) : State :=
  let r := s.huntResult m
  let t := s.answerGlobal 1 r tag
  if r = .done then (maskBuses m).foldl State.startHunt t else t

/-- BUS_RESTART (R123). -/
def State.takeRestart (s : State) (m : BusMask) (tag : Byte) : State :=
  let r := s.restartResult m
  let t := s.answerGlobal 2 r tag
  if r = .done then (maskBuses m).foldl State.restartBus t else t

/-- A global command word with any code (R176). -/
def State.takeGlobal (s : State) (code : BitVec 4) (m : BusMask) (tag : Byte) : State :=
  if code = 1 then s.takeHunt m tag
  else if code = 2 then s.takeRestart m tag
  else s.answerGlobal code .badCommand tag

/-- HUNT (R131). -/
def execHunt (m : BusMask) (tag : Byte) (s : State) : Host.Outcome State Fault Refusal :=
  s.wordEvent Reg.globalCommand.addr fun t => t.takeHunt m tag

/-- BUS_RESTART (R123). -/
def execBusRestart (m : BusMask) (tag : Byte) (s : State) : Host.Outcome State Fault Refusal :=
  s.wordEvent Reg.globalCommand.addr fun t => t.takeRestart m tag

/-- UNDEFINED_GLOBAL_COMMAND (R176). -/
def execUndefinedGlobalCommand (code : BitVec 4) (m : BusMask) (tag : Byte) (s : State) :
    Host.Outcome State Fault Refusal :=
  s.wordEvent Reg.globalCommand.addr fun t => t.takeGlobal code m tag

end Sys2Proof.Machine
end

