-- ==== Sys2Proof/Machine/Reset.lean ====
section
/-! DEFINITION. RESET_N, start-up and soft reset (R126, R141, R177, R180). -/

namespace Sys2Proof.Machine

/-- Every block at its reset values. The queue of commands and the alert levels are no block's state (log
entries 1, 8); `frame` is what the port then makes of PCS_N. -/
def State.resetBlocks (s : State) (low : Bool) (frame : Frame) : State :=
  { State.reset with pending := s.pending, resetLow := low, alerts := s.alerts,
                     port := { State.reset.port with frame := frame } }

/-- A PCS_N that is low through a reset must rise before a frame is taken (R169, R180). -/
def Frame.heldLow : Frame → Frame
  | .closed => .closed
  | _ => .waiting

/-- The poll timers start, and a hunt of bus 0 and a hunt of bus 1 (R91, R141). -/
def State.startUp (s : State) : State :=
  let started (t : State) (n : BusId) : State :=
    t.modifyEngine n fun e => { e with poll := pollTicks e.config.pollInterval }
  ((started (started s 0) 1).startHunt 0).startHunt 1

/-- RESET_N_ASSERT (R126). -/
def execResetNAssert (s : State) : Host.Outcome State Fault Refusal :=
  .next (s.resetBlocks true s.port.frame.heldLow)

/-- START_UP: the release of RESET_N (R141, R180). -/
def execStartUp (s : State) : Host.Outcome State Fault Refusal :=
  if s.resetLow then
    let t := (s.resetBlocks false s.port.frame.heldLow).startUp
    .next ((s.resetBlocks false s.port.frame.heldLow).noticeAppends t)
  else .next s

/-- A global control word: SOFT_RESET 1 resets every block, discards the rest of the frame and starts up;
SOFT_RESET 0 has no effect (R177). -/
def State.writeControl (s : State) (w : Word) : State :=
  if bitOf w 0 then (s.resetBlocks s.resetLow .discarding).startUp else s

/-- SOFT_RESET (R177). -/
def execSoftReset (w : Word) (s : State) : Host.Outcome State Fault Refusal :=
  s.wordEvent Reg.globalControl.addr fun t => t.writeControl w

end Sys2Proof.Machine
end

