-- ==== Sys2Proof/Machine/Port.lean ====
section
/-! DEFINITION. The Register Port (10_the_register_port): frames, and register words handed to their
owners. -/

namespace Sys2Proof.Machine

/-! ## Frames (R169, R172, R173, R180) -/

/-- The falling edge of PCS_N begins a frame and takes the status byte (R169, R173). While RESET_N is low
the port ignores it, and waits for the rise (R169, R180). -/
def State.frameStart (s : State) : State :=
  match s.port.frame with
  | .closed =>
    if s.resetLow then { s with port := { s.port with frame := .waiting } }
    else { s with port := { s.port with frame := .opened none, statusByte := s.statusNow } }
  | _ => s

/-- PCS_N_FALL (R169). -/
def execPcsNFall (s : State) : Host.Outcome State Fault Refusal := .next s.frameStart

/-- The header of a frame: its direction and the address of its first data word (R169). -/
structure Header where
  write : Bool
  addr : Addr
  deriving DecidableEq, Repr

/-- The two header bytes at the front of a frame's bits, once both are in (R169): the direction, address bits
11 to 2, and five bits that are ignored. -/
def Header.ofBits (bits : List Bool) : Option Header :=
  if bits.length < 16 then none
  else some { write := bits.headD false, addr := (shiftedIn 10 ((bits.drop 1).take 10)).append 0#2 }

/-- A frame that ends here was cut short: within its header, or within a write word (R172). `bits` are the
bits received since the fall or since the last whole word. -/
def Frame.cutShort (f : Frame) (bits : List Bool) : Bool :=
  match f with
  | .opened none =>
    match Header.ofBits bits with
    | none => !bits.isEmpty
    | some h => h.write && (bits.length - 16) % 32 ≠ 0
  | .opened (some _) => bits.length % 32 ≠ 0
  | _ => false

/-- The rising edge of PCS_N ends the frame (R172, R177, R180). -/
def State.frameEnd (s : State) (bits : List Bool) : State :=
  let t : State := { s with port := { s.port with frame := .closed } }
  if s.port.frame.cutShort bits then t.setFrameShort else t

/-- PCS_N_RISE (R172). -/
def execPcsNRise (bits : List Bool) (s : State) : Host.Outcome State Fault Refusal := .next (s.frameEnd bits)

/-! ## The bits of a frame (R169 to R171, R173, R180; log entry 5) -/

/-- The data words of a write frame, from the bits after its header: each with its address (R169, R170). -/
def dataWords : Nat → Addr → List Bool → List (Addr × Word)
  | 0, _, _ => []
  | n + 1, a, bits => (a, shiftedIn 32 (bits.take 32)) :: dataWords n (a + 4) (bits.drop 32)

/-- The commands that a whole frame with these PDI bits is: its fall, its data words when it is a write frame,
and its rise with the bits received since (R169, R170, R172). -/
def frameCommands (bits : List Bool) : List Instr :=
  match Header.ofBits bits with
  | none => [.pcsNFall, .pcsNRise bits]
  | some h =>
    let n := (bits.length - 16) / 32
    if h.write && n ≠ 0 then
      .pcsNFall :: ((dataWords n h.addr (bits.drop 16)).map fun p => .registerWrite p.1 p.2) ++
        [.pcsNRise (bits.drop (16 + 32 * n))]
    else [.pcsNFall, .pcsNRise bits]

/-- The address of the data word that is captured when the last of `bits` has been received, in a read frame:
at the end of the turnaround byte and of each data word (R171). -/
def Frame.captureAddr (f : Frame) (bits : List Bool) : Option Addr :=
  match f, Header.ofBits bits with
  | .opened none, some h =>
    if !h.write && 24 ≤ bits.length && (bits.length - 24) % 32 = 0 then
      some (h.addr + BitVec.ofNat 12 (4 * ((bits.length - 24) / 32)))
    else none
  | _, _ => none

/-- The data word that the port captures from its register at this moment of a read frame (R171). -/
def State.capture (s : State) (bits : List Bool) : Option Word :=
  if s.resetLow then none else (s.port.frame.captureAddr bits).map s.readWord

/-- The level of PDO once `bits` have been received since the frame's last event, or none while it is high
impedance; `words` are the data words captured so far in a read frame (R169, R180). In the rest of a frame that
a soft reset discards PDO stays 0, as during any write word (log entry 5). -/
def State.pdo (s : State) (bits : List Bool) (words : List Word) : Option Bool :=
  if s.resetLow then none
  else
    let k := bits.length
    match s.port.frame with
    | .closed => none
    | .waiting => none
    | .discarding => some false
    | .opened (some _) => some false
    | .opened none =>
      if k < 8 then some (s.port.statusByte.getLsbD (7 - k))
      else match Header.ofBits bits with
        | none => some false
        | some h =>
          if h.write || k < 24 then some false
          else some (bitOf ((words[(k - 24) / 32]?).getD 0) (31 - (k - 24) % 32))

/-- The data words captured in a read frame during which no other event is taken (R171). -/
def State.captured (s : State) (bits : List Bool) : List Word :=
  match s.port.frame, Header.ofBits bits with
  | .opened none, some h =>
    if s.resetLow || h.write || bits.length < 24 then [] else s.readBurst ((bits.length - 24) / 32 + 1) h.addr
  | _, _ => []

/-! ## Register words (R170, R174) -/

/-- A word handed to the owner of a register; a read-only register ignores it and sets READ_ONLY_WRITE
(R174). -/
def State.writeReg (s : State) (r : Reg) (w : Word) : State :=
  match r with
  | .globalControl => s.writeControl w
  | .globalCommand => s.takeGlobal (commandCodeOf w) (busMaskOf w) (commandTagOf w)
  | .globalStatus => s.clearRouteConflict w
  | .portStatus => s.clearPortErrors w
  | .busConfig n => s.writeBusConfig n w
  | .lineControl k => s.writeLine k w
  | .take => s.writeTake w
  | .queueStatus => s.clearOverflow w
  | .routing i => s.writeRoute i w
  | .profileA p => s.writeProfile p false w
  | .profileB p => s.writeProfile p true w
  | .classMap => s.writeClassMap w
  | .bay b .config => s.writeBayConfig b w
  | .bay b .command => s.takeCommandCode b (commandCodeOf w) (commandTagOf w) (commandArgsOf w)
  | _ => s.setReadOnlyWrite

/-- A word at an address; a reserved address ignores it and sets BAD_ADDRESS (R174). -/
def State.writeWord (s : State) (a : Addr) (w : Word) : State :=
  match regAt a with
  | none => s.setBadAddress
  | some r => s.writeReg r w

/-- REGISTER_WRITE (R170, R174; log entry 6). A frame's header gives multiples of 4 alone (R169). -/
def execRegisterWrite (a : Addr) (w : Word) (s : State) : Host.Outcome State Fault Refusal :=
  if a.toNat % 4 = 0 then s.wordEvent a fun t => t.writeWord a w else .next s

end Sys2Proof.Machine
end

