-- ==== Sys2Proof/Machine/Timebase.lean ====
section
/-! DEFINITION. The Timebase (R17, R18): the tick advances the millisecond counter and every running
timer. -/

namespace Sys2Proof.Machine

/-- A running timer is one tick older (R18). -/
def SeqTimer.age (t : SeqTimer) : SeqTimer := { t with left := t.left - 1 }

def Candidate.age (c : Candidate) : Candidate :=
  match c.phase with
  | .timing n => { c with phase := .timing (n - 1) }
  | .confirming => c

/-- The timers of a bay (R18): the sequence timer and the debounce timer. -/
def Bay.age (x : Bay) : Bay := { x with timer := x.timer.map SeqTimer.age, candidate := x.candidate.map Candidate.age }

/-- The clock-stretch timeout of a bus (R18, R119). -/
def BusState.age : BusState → BusState
  | .active tx a sp st => .active tx a sp (st.map (· - 1))
  | .recovering tx a p sp st => .recovering tx a p sp (st.map (· - 1))
  | b => b

/-- The timers of a bus (R18): the poll timer and the clock-stretch timeout. -/
def Engine.age (e : Engine) : Engine := { e with bus := e.bus.age, poll := e.poll.map (· - 1) }

/-- One tick (R17, R18; log entry 3). -/
def State.tick (s : State) : State :=
  { s with millis := s.millis + 1, bays := Vector.ofFn fun b : BayId => (s.bay b).age,
           engines := Vector.ofFn fun n : BusId => (s.engine n).age }

/-- TIMEBASE_TICK (R17); no tick occurs while RESET_N is low. -/
def execTimebaseTick (s : State) : Host.Outcome State Fault Refusal := s.event s.tick

end Sys2Proof.Machine
end

