-- ==== Sys2Proof/Machine/Dispatch.lean ====
section
/-! DEFINITION. The meaning of each command. -/

namespace Sys2Proof.Machine

def exec (i : Instr) (s : State) : Host.Outcome State Fault Refusal :=
  match i with
  | .resetNAssert => Sys2Proof.Machine.execResetNAssert s
  | .startUp => Sys2Proof.Machine.execStartUp s
  | .softReset w => Sys2Proof.Machine.execSoftReset w s
  | .timebaseTick => Sys2Proof.Machine.execTimebaseTick s
  | .pcsNFall => Sys2Proof.Machine.execPcsNFall s
  | .pcsNRise bits => Sys2Proof.Machine.execPcsNRise bits s
  | .registerWrite a w => Sys2Proof.Machine.execRegisterWrite a w s
  | .bayConfigurationWrite b w => Sys2Proof.Machine.execBayConfigurationWrite b w s
  | .profileWrite p wordB w => Sys2Proof.Machine.execProfileWrite p wordB w s
  | .classMapWrite w => Sys2Proof.Machine.execClassMapWrite w s
  | .busConfigurationWrite n w => Sys2Proof.Machine.execBusConfigurationWrite n w s
  | .routingEntryWrite source w => Sys2Proof.Machine.execRoutingEntryWrite source w s
  | .lineControlWrite k w => Sys2Proof.Machine.execLineControlWrite k w s
  | .takeLineWindow w => Sys2Proof.Machine.execTakeLineWindow w s
  | .takeAnyWindow w => Sys2Proof.Machine.execTakeAnyWindow w s
  | .overflowClear w => Sys2Proof.Machine.execOverflowClear w s
  | .routeConflictClear w => Sys2Proof.Machine.execRouteConflictClear w s
  | .portErrorClear w => Sys2Proof.Machine.execPortErrorClear w s
  | .hunt m tag => Sys2Proof.Machine.execHunt m tag s
  | .busRestart m tag => Sys2Proof.Machine.execBusRestart m tag s
  | .powerOn b tag args => Sys2Proof.Machine.execPowerOn b tag args s
  | .powerOff b tag args => Sys2Proof.Machine.execPowerOff b tag args s
  | .setInd b tag args => Sys2Proof.Machine.execSetInd b tag args s
  | .lock b tag args => Sys2Proof.Machine.execLock b tag args s
  | .unlock b tag args => Sys2Proof.Machine.execUnlock b tag args s
  | .setAux b tag args => Sys2Proof.Machine.execSetAux b tag args s
  | .clearFault b tag args => Sys2Proof.Machine.execClearFault b tag args s
  | .refresh b tag args => Sys2Proof.Machine.execRefresh b tag args s
  | .rampTimeExpiry b => Sys2Proof.Machine.execRampTimeExpiry b s
  | .rampTimeout b => Sys2Proof.Machine.execRampTimeout b s
  | .clkToRstExpiry b => Sys2Proof.Machine.execClkToRstExpiry b s
  | .drainStepExpiry b => Sys2Proof.Machine.execDrainStepExpiry b s
  | .cooldownExpiry b => Sys2Proof.Machine.execCooldownExpiry b s
  | .debounceExpiry b => Sys2Proof.Machine.execDebounceExpiry b s
  | .pollTimerExpiry n => Sys2Proof.Machine.execPollTimerExpiry n s
  | .xalertAsserted n => Sys2Proof.Machine.execXalertAsserted n s
  | .xalertDeasserted n => Sys2Proof.Machine.execXalertDeasserted n s
  | .beginTransaction n => Sys2Proof.Machine.execBegin n s
  | .outputWriteComplete n => Sys2Proof.Machine.execOutputWriteComplete n s
  | .inputReadComplete n input output direction => Sys2Proof.Machine.execInputReadComplete n input output direction s
  | .probeAcknowledged n => Sys2Proof.Machine.execProbeAcknowledged n s
  | .identReadComplete n ident => Sys2Proof.Machine.execIdentReadComplete n ident s
  | .setupReadComplete n output direction blink rate => Sys2Proof.Machine.execSetupReadComplete n output direction blink rate s
  | .forceSafeWriteComplete n => Sys2Proof.Machine.execForceSafeWriteComplete n s
  | .seedingReadComplete n input output direction => Sys2Proof.Machine.execSeedingReadComplete n input output direction s
  | .attemptNack n => Sys2Proof.Machine.execAttemptNack n s
  | .attemptDataLineLow n => Sys2Proof.Machine.execAttemptDataLineLow n s
  | .clockStretchRelease n => Sys2Proof.Machine.execClockStretchRelease n s
  | .clockStretchTimeout n => Sys2Proof.Machine.execClockStretchTimeout n s
  | .recoveryPassEnd n dataHigh => Sys2Proof.Machine.execRecoveryPassEnd n dataHigh s
  | .pulseHighEnd k => Sys2Proof.Machine.execPulseHighEnd k s
  | .pulseGapEnd k => Sys2Proof.Machine.execPulseGapEnd k s
  | .clockStretchDetected n => Sys2Proof.Machine.execClockStretchDetected n s
  | .undefinedBayCommand b code tag args => Sys2Proof.Machine.execUndefinedBayCommand b code tag args s
  | .undefinedGlobalCommand code m tag => Sys2Proof.Machine.execUndefinedGlobalCommand code m tag s

end Sys2Proof.Machine
end

