-- ==== Sys2Proof/Machine/Wire.lean ====
section
/-! DEFINITION. The levels of XSDAn and XSCLn (05_the_companion_expander R99; 06_expander_bus_engines R105, R120,
R123, R126): conditions and bytes, the recovery pass, and how the part ends what is on the wire. -/

namespace Sys2Proof.Machine

/-! ## Levels (R99) -/

/-- The levels of the two lines of a bus at one moment, 1 for high. -/
structure WireLevels where
  data : Bool
  clock : Bool
  deriving DecidableEq, Repr

/-- The bits of a byte, most significant bit first (R99). -/
def msbFirst (v : Byte) : List Bool := (List.finRange 8).map fun i => v.getMsbD i.val

/-- The nine bits of a byte on the wire: its own, then the acknowledge bit, low to acknowledge (R99). -/
def byteBits (v : Byte) (acked : Bool) : List Bool := msbFirst v ++ [!acked]

/-- One bit: XSDAn takes its level while XSCLn is low and keeps it while XSCLn is high. -/
def bitLevels (high : Bool) : List WireLevels :=
  [{ data := high, clock := false }, { data := high, clock := true }, { data := high, clock := false }]

/-- A byte and its acknowledge bit (R99). -/
def byteLevels (v : Byte) (acked : Bool) : List WireLevels := (byteBits v acked).flatMap bitLevels

/-- A start condition: XSDAn falls while XSCLn is high (R99). -/
def startLevels : List WireLevels :=
  [{ data := true, clock := true }, { data := false, clock := true }, { data := false, clock := false }]

/-- A repeated start: XSDAn is released and XSCLn raised for a start with no stop before it (R99). -/
def repeatedStartLevels : List WireLevels := { data := true, clock := false } :: startLevels

/-- A stop condition: XSDAn is pulled low and released while XSCLn is high; it rises unless a partner holds it
(R99, R120). -/
def stopLevels (after : Bool) : List WireLevels :=
  [{ data := false, clock := false }, { data := false, clock := true }, { data := after, clock := true }]

/-- The levels of one item; `v` is the byte that the expander sends in a data byte, and `acked` says whether it
acknowledges a byte from the part (R99). -/
def WireItem.levels (x : WireItem) (v : Byte) (acked : Bool) : List WireLevels :=
  match x with
  | .start => startLevels
  | .repeatedStart => repeatedStartLevels
  | .stop => stopLevels true
  | .send b => byteLevels b acked
  | .recv ack => byteLevels v ack

/-! ## An item that is not finished (R100, R123, R126) -/

/-- How an item ends before its time: a partner holds the clock low for 12 ms (R100); the part ends the attempt
with a stop (R123, R126); or it releases both lines, as RESET_N makes it do (R126). -/
inductive WireCut where
  | clockHeld | stopped | released
  deriving DecidableEq, Repr

/-- The nine bits of an item that is a byte. -/
def WireItem.bits (x : WireItem) (v : Byte) (acked : Bool) : List Bool :=
  match x with
  | .send b => byteBits b acked
  | .recv ack => byteBits v ack
  | _ => []

/-- The level at which the expander leaves XSDAn in a bit of an item: its data bits and its acknowledge bit are
its own, and it releases the line in every other (R99). -/
def WireItem.partner (x : WireItem) (v : Byte) (acked : Bool) (bit : Nat) : Bool :=
  match x with
  | .send _ => if bit = 8 then !acked else true
  | .recv _ => (msbFirst v).getD bit true
  | _ => true

/-- The levels of an item cut off in a bit: the bits before it, then the hold, the stop, or the released lines,
with XSDAn as the expander leaves it (R100, R126). -/
def WireItem.cutLevels (x : WireItem) (v : Byte) (acked : Bool) (bit : Nat) (c : WireCut) : List WireLevels :=
  ((x.bits v acked).take bit).flatMap bitLevels ++
    match c with
    | .clockHeld => [{ data := (x.bits v acked).getD bit true, clock := false }]
    | .stopped => stopLevels (x.partner v acked bit)
    | .released => [{ data := x.partner v acked bit, clock := true }]

/-! ## The recovery pass (R120) -/

/-- How a recovery pass ends (R120); `abandoned` is an end by the part (R123, R126). -/
inductive PassResult where
  | succeeded | failed | abandoned
  deriving DecidableEq, Repr

/-- A recovery pass: its levels and its result. -/
structure PassRun where
  levels : List WireLevels
  result : PassResult
  deriving DecidableEq, Repr

/-- A recovery pass: nine clocks with XSDAn released by the part, then a stop (R120). `partners` is the level at which
the partners leave XSDAn in each of the nine clocks and after the stop; a pass that is cut is cut in one of the
clocks, by a clock held low for 12 ms or by the part (R120, R123, R126). -/
def recoveryPass (partners : Vector Bool 10) (cut : Option (Fin 9 × WireCut)) : PassRun :=
  let clocks := partners.toList.take 9
  let after := partners[9]
  match cut with
  | none =>
    { levels := clocks.flatMap bitLevels ++ stopLevels after,
      result := if after then .succeeded else .failed }
  | some (k, c) =>
    { levels := (clocks.take k.val).flatMap bitLevels ++
        match c with
        | .clockHeld => [{ data := partners[k.castSucc], clock := false }]
        | .stopped => stopLevels partners[k.castSucc]
        | .released => [{ data := partners[k.castSucc], clock := true }],
      result := if c = .clockHeld then .failed else .abandoned }

/-- The line that a partner leaves in a pass when it was cut off after `sent` bits of a byte: the rest of the
byte, then released, since no one acknowledges it (R120). -/
def cutSender (v : Byte) (sent : Fin 9) : Vector Bool 10 :=
  Vector.ofFn fun i => (msbFirst v).getD (sent.val + i.val) true

/-! ## What the engine drives (R105, R123, R124, R126) -/

/-- The engine drives its bus: an attempt or a recovery pass is on the wire. In IDLE, in FAILED and while RESET_N
is low it drives nothing (R105, R122, R126). -/
def State.drivesBus (s : State) (n : BusId) : Bool :=
  !s.resetLow &&
    match (s.engine n).bus with
    | .active _ _ _ _ => true
    | .recovering _ _ _ _ _ => true
    | _ => false

/-- What ends the work of a bus from outside its engine. -/
inductive WireEnder where
  | resetN | softReset | restart
  deriving DecidableEq, Repr

/-- How what is on the wire of a bus then ends: a soft reset ends an attempt or a pass with a stop, a BUS_RESTART
and a disable end an attempt so, and RESET_N releases the lines (R123, R124, R126). A pass that a BUS_RESTART or a
disable cuts short ends with a stop too (log entry 25). -/
def State.wireEnd (s : State) (n : BusId) (ender : WireEnder) : Option WireCut :=
  if s.drivesBus n then some (if ender = .resetN then .released else .stopped) else none

end Sys2Proof.Machine
end

