-- ==== Sys2Proof/Machine/Expander.lean ====
section
/-! DEFINITION. The companion expander IJX16 as a component (05_the_companion_expander, R93 to R95, R99,
R100, R101): its register file, its pins, its alert, and the attempts on the wire it takes part in. It is a
partner outside the block's State (log entry 13). -/

namespace Sys2Proof.Machine

/-- The registers of an expander (R93), the snapshot of its line levels, absent until the first INPUT read
since its reset (R95), and the half that each line's blink is in, 1 for the high half (R97). -/
structure Expander where
  regs : Regs
  pointer : BitVec 4
  snapshot : Option Half
  blinkHigh : Half
  deriving DecidableEq, Repr

/-- The expander after its own power-up or reset (R94). No line blinks then; the halves are 0 (log entry 13). -/
def Expander.reset : Expander :=
  { regs := { output := 0, direction := 0, blink := 0, rate := 0 }, pointer := 0, snapshot := none,
    blinkHigh := 0 }

/-! ## Its pins (R93, R96, R97, R101) -/

/-- What a line shows: the level the board gives it as an input, a steady level, or a blink at about 4 Hz
(`fast`) or about 1 Hz (R93, R97). -/
inductive LineDrive where
  | input
  | steady (high : Bool)
  | blinking (fast : Bool)
  deriving DecidableEq, Repr

/-- What the registers make line `i` show; OUTPUT is ignored while the line blinks (R93, R97). -/
def Regs.lineDrive (r : Regs) (i : Fin 16) : LineDrive :=
  if r.direction.getLsbD i then
    if r.blink.getLsbD i then .blinking (r.rate.getLsbD i) else .steady (r.output.getLsbD i)
  else .input

/-- What lines 0 to 7 of a bay show, line 0 first (R96, R101). -/
def Expander.shows (e : Expander) : List LineDrive :=
  [e.regs.lineDrive 0, e.regs.lineDrive 1, e.regs.lineDrive 2, e.regs.lineDrive 3, e.regs.lineDrive 4,
   e.regs.lineDrive 5, e.regs.lineDrive 6, e.regs.lineDrive 7]

/-- What an indicator's pin shows in a mode (R97). -/
def IndMode.shows : IndMode → LineDrive
  | .off => .steady false
  | .on => .steady true
  | .slow => .blinking false
  | .fast => .blinking true

/-- What lines 0 to 7 show when the registers hold an image written with AUX directions `d` (R96, R97, R101). -/
def Image.shows (i : Image) (d : Dirs) : List LineDrive :=
  [.steady i.pwrEn, .steady i.clkEn, .steady i.released, i.indP.shows, i.indA.shows, .steady i.lock,
   if d.aux0 then .steady i.aux0 else .input, if d.aux1 then .steady i.aux1 else .input]

/-- The levels that the lines drive as outputs: OUTPUT, or the half of the blink (R93, R97). -/
def Expander.driven (e : Expander) : Half :=
  (e.regs.blink &&& e.blinkHigh) ||| (~~~e.regs.blink &&& e.regs.output)

/-- The levels on the sixteen pins: an output line's own, and on an input line the level that the board gives
it (R93, R94, R101). -/
def Expander.pins (e : Expander) (board : Half) : Half :=
  (e.regs.direction &&& e.driven) ||| (~~~e.regs.direction &&& board)

/-- The blink of `lines` passes from one half to the other; the rates are not timed (R97; log entry 18). -/
def Expander.blinkTurn (e : Expander) (lines : Half) : Expander :=
  { e with blinkHigh := e.blinkHigh ^^^ (lines &&& e.regs.blink) }

/-! ## Its registers and its alert (R93, R95) -/

/-- A register pair with its low byte replaced. -/
def withLow (h : Half) (b : Byte) : Half := (highByte h).append b

/-- A register pair with its high byte replaced. -/
def withHigh (h : Half) (b : Byte) : Half := b.append (lowByte h)

/-- The byte at an index, with `board` the levels the board gives the input lines (R93). -/
def Expander.peek (e : Expander) (board : Half) : BitVec 4 → Byte
  | 0x0 => lowByte (e.pins board)
  | 0x1 => highByte (e.pins board)
  | 0x2 => lowByte e.regs.output
  | 0x3 => highByte e.regs.output
  | 0x4 => lowByte e.regs.direction
  | 0x5 => highByte e.regs.direction
  | 0x6 => lowByte e.regs.blink
  | 0x7 => highByte e.regs.blink
  | 0x8 => lowByte e.regs.rate
  | 0x9 => highByte e.regs.rate
  | 0xF => 0x6B
  | _ => 0x00

/-- The registers after a byte is stored at an index; INPUT, IDENT and 0x0A to 0x0E take nothing (R93). -/
def Regs.store (r : Regs) (b : Byte) : BitVec 4 → Regs
  | 0x2 => { r with output := withLow r.output b }
  | 0x3 => { r with output := withHigh r.output b }
  | 0x4 => { r with direction := withLow r.direction b }
  | 0x5 => { r with direction := withHigh r.direction b }
  | 0x6 => { r with blink := withLow r.blink b }
  | 0x7 => { r with blink := withHigh r.blink b }
  | 0x8 => { r with rate := withLow r.rate b }
  | 0x9 => { r with rate := withHigh r.rate b }
  | _ => r

/-- The lines whose blink starts with a byte stored at an index: those whose BLINK bit it sets (R97; log
entry 13). -/
def blinkStarts (b : Byte) : BitVec 4 → Half
  | 0x6 => withLow 0 b
  | 0x7 => withHigh 0 b
  | _ => 0

/-- A data byte is stored at the pointer, which advances, from 0x0F to 0x00; the pins follow at once, a blink
starting high (R93, R97). -/
def Expander.store (e : Expander) (b : Byte) : Expander :=
  { e with regs := e.regs.store b e.pointer, pointer := e.pointer + 1,
           blinkHigh := e.blinkHigh ||| blinkStarts b e.pointer }

/-- A data byte is sent from the pointer, which advances; sending INPUT low takes the snapshot (R93, R95). -/
def Expander.send (e : Expander) (board : Half) : Byte × Expander :=
  (e.peek board e.pointer,
   { e with pointer := e.pointer + 1, snapshot := if e.pointer = 0 then some (e.pins board) else e.snapshot })

/-- The index byte sets the pointer; above 0x0F it is not acknowledged (R93). -/
def Expander.setPointer (e : Expander) (b : Byte) : Option Expander :=
  if b.toNat < 16 then some { e with pointer := b.setWidth 4 } else none

/-- The alert output is asserted: before the first INPUT read, or while an input line's level differs from
the snapshot (R95). -/
def Expander.alert (e : Expander) (board : Half) : Bool :=
  match e.snapshot with
  | none => true
  | some sn => ~~~e.regs.direction &&& (e.pins board ^^^ sn) ≠ 0

/-! ## An attempt on the wire (R93, R99, R100) -/

/-- What the next byte means to the expander: nothing, until it is addressed. -/
inductive WirePhase where
  | idle | address | index | storing | sending
  deriving DecidableEq, Repr

/-- What disturbs an attempt, at the items of its shape, counted from 0: nothing; an expander that does not
acknowledge that byte; a clock held low for 12 ms in a bit of an item; a data line held low in the bits that are 1
(bit 8 for a byte's first bit, bit 0 for its acknowledge bit, any bit for a condition); or the part's own end of the
attempt in a bit of an item, with a stop (R123, R126) or without one (R126). That a hold begins and ends while XSCLn
is low is the model's choice (log entry 13). -/
inductive Disturbance where
  | quiet
  | refused (item : Nat)
  | clockHeld (item bit : Nat)
  | dataHeld (low : List (Nat × BitVec 9))
  | ended (item bit : Nat) (stop : Bool)
  deriving DecidableEq, Repr

/-- The result of an attempt (R100); `abandoned` is an end by the part (R123, R126). -/
inductive AttemptResult where
  | succeeded | nack | timeout | abandoned
  deriving DecidableEq, Repr

/-- What an attempt was: the expander after it, what went over the wire, in items and in levels, the data bytes
the part received, and the result. -/
structure WireRun where
  expander : Expander
  wire : List WireItem
  levels : List WireLevels
  received : List Byte
  result : AttemptResult
  deriving DecidableEq, Repr

/-- A start, repeated start or stop: the part sends one on a released data line alone (R100). -/
def WireItem.isCondition : WireItem → Bool
  | .start => true
  | .repeatedStart => true
  | .stop => true
  | _ => false

/-- The item is a byte from the part. -/
def WireItem.isSend : WireItem → Bool
  | .send _ => true
  | _ => false

/-- The item is a byte to the part. -/
def WireItem.isRecv : WireItem → Bool
  | .recv _ => true
  | _ => false

/-- The bits in which a partner holds the data line low in item `k`. -/
def Disturbance.lowBits (d : Disturbance) (k : Nat) : BitVec 9 :=
  match d with
  | .dataHeld low => ((low.find? fun p => p.1 = k).map Prod.snd).getD 0
  | _ => 0

/-- The bit in which item `k` is cut off, and how. -/
def Disturbance.cutAt (d : Disturbance) (k : Nat) : Option (Nat × WireCut) :=
  match d with
  | .clockHeld j bit => if j = k then some (bit, .clockHeld) else none
  | .ended j bit stop => if j = k then some (bit, if stop then .stopped else .released) else none
  | _ => none

/-- A byte on a line that is held low in some of its bits: those read 0 (R100). -/
def heldByte (v : Byte) (low : BitVec 9) : Byte := v &&& ~~~low.extractLsb' 1 8

/-- The item as the wire carries it: where the line is held low, the bits of a byte from the part and a
not-acknowledge read 0 at the expander too (DEDUCED, log entry 13). -/
def WireItem.onWire (x : WireItem) (low : BitVec 9) : WireItem :=
  match x with
  | .send v => .send (heldByte v low)
  | .recv ack => .recv (ack || low.getLsbD 0)
  | x => x

/-- The expander of bay `b` takes one item of an attempt: itself and its phase afterwards, with the byte it
sends in a data byte; nothing where it does not acknowledge (R93, R99). Once a data byte is not acknowledged it
knows the read to be over. -/
def Expander.take (b : BayId) (board : Half) (e : Expander) (ph : WirePhase) :
    WireItem → Option (Expander × WirePhase × List Byte)
  | .start => some (e, .address, [])
  | .repeatedStart => some (e, .address, [])
  | .stop => some (e, .idle, [])
  | .send v =>
    match ph with
    | .address =>
      if v = addressByte b false then some (e, .index, [])
      else if v = addressByte b true then some (e, .sending, [])
      else none
    | .index => (e.setPointer v).map fun e' => (e', .storing, [])
    | .storing => some (e.store v, .storing, [])
    | .sending => none
    | .idle => none
  | .recv ack =>
    match ph with
    | .sending => some ((e.send board).2, if ack then .sending else .idle, [(e.send board).1])
    | _ => none

/-- The rest of an attempt from item `k` on. After a byte that is not acknowledged the part sends a stop at
once; a timeout leaves the wire to the recovery passes (R100). A data byte that no one sends reads 0xFF. An item
that is cut off does nothing to the expander: a byte counts once its acknowledge bit has been clocked (log entry
13). -/
def Expander.run (b : BayId) (board : Half) (d : Disturbance) : Nat → WirePhase → List WireItem → Expander → WireRun
  | _, _, [], e => { expander := e, wire := [], levels := [], received := [], result := .succeeded }
  | k, ph, x :: rest, e =>
    let low := d.lowBits k
    let y := x.onWire low
    let taken := if d = .refused k && x.isSend then none else e.take b board ph y
    let p := taken.getD (e, .idle, [])
    let byte := heldByte (p.2.2.headD 0xFF) low
    let acked := taken.isSome || low.getLsbD 0
    match d.cutAt k with
    | some (bit, c) =>
      { expander := e, wire := if c = .stopped then [.stop] else [], levels := y.cutLevels byte acked bit c,
        received := [], result := if c = .clockHeld then .timeout else .abandoned }
    | none =>
      if x.isCondition && low ≠ 0 then
        { expander := e, wire := [], levels := [], received := [], result := .timeout }
      else if x.isSend && !acked then
        { expander := e, wire := [y, .stop], levels := y.levels byte false ++ stopLevels true, received := [],
          result := .nack }
      else
        let r := Expander.run b board d (k + 1) p.2.1 rest p.1
        { r with wire := y :: r.wire, levels := y.levels byte acked ++ r.levels,
                 received := (if x.isRecv then [byte] else []) ++ r.received }

/-- An attempt of an entry's transaction with the expander of its bay, under a disturbance (R99, R100). -/
def Expander.attempt (e : Expander) (t : Entry) (board : Half) (d : Disturbance) : WireRun :=
  Expander.run t.bay board d 0 .idle t.shape e

end Sys2Proof.Machine
end

