-- ==== Sys2Proof/WellFormed.lean ====
section
/-! DEFINITION. Which commands are well formed: the operands of each row are ones that its event can carry
(log entries 5, 6, 22). -/

namespace Sys2Proof

open Sys2Proof.Machine

/-- A word of REGISTER_WRITE: at a multiple of 4 (R169), to a reserved or read-only register, or a global
control word with SOFT_RESET 0; the other words have rows of their own (R174). -/
def registerWordWellFormed (a : Addr) (w : Word) : Bool :=
  a.toNat % 4 = 0 &&
    match regAt a with
    | none => true
    | some .globalControl => !bitOf w 0
    | some r => r.access = .readOnly

/-- The bits of a frame's end: less than a whole write word after a header (R170, R172). -/
def frameTailWellFormed (bits : List Bool) : Bool := bits.head? = some false || bits.length < 48

/-- The command is one that its row describes. -/
def Instr.wellFormed : Instr → Bool
  | .softReset w => bitOf w 0
  | .pcsNRise bits => frameTailWellFormed bits
  | .registerWrite a w => registerWordWellFormed a w
  | .takeLineWindow w => fieldOf w 0 3 ≠ 4
  | .takeAnyWindow w => fieldOf w 0 3 = 4
  | .undefinedBayCommand _ code _ _ => (BayCommand.ofCode code).isNone
  | .undefinedGlobalCommand code _ _ => code ≠ 1 && code ≠ 2
  | _ => true

/-- The address that a command's register word is written to; none for a command that is no register word
(register map). -/
def Instr.wordAddr : Instr → Option Addr
  | .softReset _ => some Reg.globalControl.addr
  | .registerWrite a _ => some a
  | .bayConfigurationWrite b _ => some (Reg.bay b .config).addr
  | .profileWrite p wordB _ => some (if wordB then (Reg.profileB p).addr else (Reg.profileA p).addr)
  | .classMapWrite _ => some Reg.classMap.addr
  | .busConfigurationWrite n _ => some (Reg.busConfig n).addr
  | .routingEntryWrite i _ => some (Reg.routing i).addr
  | .lineControlWrite k _ => some (Reg.lineControl k).addr
  | .takeLineWindow _ => some Reg.take.addr
  | .takeAnyWindow _ => some Reg.take.addr
  | .overflowClear _ => some Reg.queueStatus.addr
  | .routeConflictClear _ => some Reg.globalStatus.addr
  | .portErrorClear _ => some Reg.portStatus.addr
  | .hunt _ _ => some Reg.globalCommand.addr
  | .busRestart _ _ => some Reg.globalCommand.addr
  | .undefinedGlobalCommand _ _ _ => some Reg.globalCommand.addr
  | .powerOn b _ _ => some (Reg.bay b .command).addr
  | .powerOff b _ _ => some (Reg.bay b .command).addr
  | .setInd b _ _ => some (Reg.bay b .command).addr
  | .lock b _ _ => some (Reg.bay b .command).addr
  | .unlock b _ _ => some (Reg.bay b .command).addr
  | .setAux b _ _ => some (Reg.bay b .command).addr
  | .clearFault b _ _ => some (Reg.bay b .command).addr
  | .refresh b _ _ => some (Reg.bay b .command).addr
  | .undefinedBayCommand b _ _ _ => some (Reg.bay b .command).addr
  | _ => none

end Sys2Proof
end

