-- ==== Sys2Proof/Safety.lean ====
section
/-! DEFINITION. What the states of a run satisfy: the invariants the manual states of bays, bus queues,
images, the Event Queue, the routing table and the notification lines. -/

namespace Sys2Proof.Machine

/-! ## Event Queue (R145, R147) -/

/-- Two records of the queue do not stand for one that should have been coalesced (R147). -/
def Record.apart (r q : Record) : Prop :=
  ¬ (r.detail.kind.coalesces = true ∧ r.source = q.source ∧ r.detail.kind = q.detail.kind)

/-- At most 32 records, no two with the same SEQ (R145), no two that should have been coalesced (R147). -/
def EventQueue.Wf (q : EventQueue) : Prop :=
  q.records.length ≤ 32 ∧ (q.records.map (·.seq)).Nodup ∧ q.records.Pairwise Record.apart

/-! ## Routing table (R160) -/

/-- A line named by an entry with EXCL set is named by no other entry (R160). -/
def State.RoutesExclusive (s : State) : Prop :=
  ∀ i j : SourceId, i ≠ j → (s.routing[i]).excl = true → (s.routing[i]).line ≠ none →
    (s.routing[j]).line ≠ (s.routing[i]).line

/-! ## Notification lines (R164) -/

/-- A line outside PULSE mode, or disabled, is in QUIET, and in QUIET no pulse is owed (R164). -/
def Line.Settled (l : Line) : Prop :=
  (l.pulsing = false → l.phase = .quiet) ∧ (l.phase = .quiet → l.owed = false)

def State.LinesSettled (s : State) : Prop := ∀ k : LineId, (s.lines[k]).Settled

/-! ## Configuration ranges (R4, R19) and engine counts (R107, R120) -/

/-- DEBOUNCE, RAMP_TIME and CLK_TO_RST are never 0 (R4, R19). -/
def State.TimesPositive (s : State) : Prop :=
  (∀ b : BayId, (s.bay b).config.debounce ≠ 0) ∧
    ∀ p : ProfileId, (s.profiles[p]).rampTime ≠ 0 ∧ (s.profiles[p]).clkToRst ≠ 0

/-- An attempt number lies between 1 and 8, and a count of failed passes between 0 and 2 (R107). -/
def BusState.CountsBounded : BusState → Prop
  | .active _ a _ _ => 1 ≤ a ∧ a ≤ 8
  | .recovering _ a p _ _ => 1 ≤ a ∧ a ≤ 8 ∧ p ≤ 2
  | _ => True

def State.CountsBounded (s : State) : Prop := ∀ n : BusId, (s.engine n).bus.CountsBounded

/-! ## Links, power states and transactions (R2, R3, R50, R111) -/

/-- The transaction in flight or held, unless it is ignored. -/
def Engine.currentEntry (e : Engine) : List Entry :=
  match e.bus.current with
  | none => []
  | some tx => if tx.ignored then [] else [tx.entry]

/-- The entries of a bus that still count: the queue's, and the one in flight or held. -/
def Engine.entries (e : Engine) : List Entry := e.currentEntry ++ e.queue

/-- The link state in which a bay has a transaction of a kind (R2, R111). -/
def TxKind.link : TxKind → LinkState
  | .probe => .probing
  | .setup _ => .setup
  | .inputRead => .bound
  | .outputWrite => .bound

/-- Power is UNKNOWN exactly when the link is not BOUND (R3), and no command is in progress then (R50). -/
def Bay.LinkOk (x : Bay) : Prop :=
  (x.power = .unknown ↔ x.link ≠ .bound) ∧ (x.slot.inProgress = true → x.link = .bound)

/-- Every counting entry belongs to a bay of its bus in the link state of its kind, and a bay in PROBING or
SETUP has at most one (R2, R111, R130). -/
def State.LinksConsistent (s : State) : Prop :=
  (∀ b : BayId, (s.bay b).LinkOk) ∧
  (∀ n : BusId, ∀ e ∈ (s.engine n).entries, busOf e.bay = n ∧ (s.bay e.bay).link = e.kind.link) ∧
  (∀ b : BayId, (s.bay b).link = .probing ∨ (s.bay b).link = .setup →
    (s.engine (busOf b)).entries.countP (fun e => e.bay = b) ≤ 1)

/-! ## Output images (R12) -/

/-- The images of a bay obey the law of R12, and in RAMP and CLOCK the target has the power outputs on that
the sequence has switched on so far (R24, R26). -/
def Bay.ImagesLawful (x : Bay) : Prop :=
  x.target.lawful = true ∧ (∀ w, x.confirmed = some w → w.image.lawful = true) ∧
  (x.power = .ramp → x.target.pwrEn = true) ∧
  (x.power = .clock → x.target.pwrEn = true ∧ x.target.clkEn = true)

/-- What an entry carries obeys the law of R12. -/
def Entry.CarriesLawful (e : Entry) : Prop := ∀ w, e.carried = some w → w.image.lawful = true

/-- Every image of the part obeys the law of R12: targets, confirmed images, and what writes carry. -/
def State.ImagesLawful (s : State) : Prop :=
  (∀ b : BayId, (s.bay b).ImagesLawful) ∧
  (∀ n : BusId, ∀ e ∈ (s.engine n).queue, e.CarriesLawful) ∧
  (∀ n : BusId, ∀ tx, (s.engine n).bus.current = some tx → tx.entry.CarriesLawful)

/-! ## Bus queues (R108) -/

/-- The bounds of the queue of bus `n`: its entries belong to bays of the bus; a bay has at most one queued
INPUT_READ and one queued OUTPUT_WRITE, and no other entry beside a queued PROBE or SETUP; so there are at most 16
(R108). -/
def Engine.QueueBounded (g : Engine) (n : BusId) : Prop :=
  g.queue.length ≤ 16 ∧ (∀ e ∈ g.queue, busOf e.bay = n) ∧
  ∀ b : BayId, g.queue.countP (fun e => e.bay = b && e.kind = .inputRead) ≤ 1 ∧
    g.queue.countP (fun e => e.bay = b && e.kind = .outputWrite) ≤ 1 ∧
    ((∃ e ∈ g.queue, e.bay = b ∧ e.kind ≠ .inputRead ∧ e.kind ≠ .outputWrite) →
      g.queue.countP (fun e => e.bay = b) ≤ 1)

def State.QueuesBounded (s : State) : Prop := ∀ n : BusId, (s.engine n).QueueBounded n

/-! ## Conditions on the wire (R99) -/

/-- The start conditions in a course of levels: falls of XSDAn while XSCLn is high (R99). -/
def startsIn : List WireLevels → Nat
  | x :: y :: rest => (if x.clock && y.clock && x.data && !y.data then 1 else 0) + startsIn (y :: rest)
  | _ => 0

/-- The stop conditions in a course of levels: rises of XSDAn while XSCLn is high (R99). -/
def stopsIn : List WireLevels → Nat
  | x :: y :: rest => (if x.clock && y.clock && !x.data && y.data then 1 else 0) + stopsIn (y :: rest)
  | _ => 0

/-! ## What an event leaves alone -/

/-- The parts of the state that no event of a bay or of a bus changes: everything but the bays, the engines,
the Event Queue and the lines. -/
structure Shell where
  pending : List Instr
  resetLow : Bool
  alerts : Vector Bool 2
  millis : Word
  profiles : Vector Profile 4
  classMap : Vector (Option ProfileId) 8
  routing : Vector Route 19
  routeConflict : Bool
  globalStatus : GlobalStatus
  port : Port
  deriving DecidableEq, Repr

def State.shell (s : State) : Shell :=
  { pending := s.pending, resetLow := s.resetLow, alerts := s.alerts, millis := s.millis,
    profiles := s.profiles, classMap := s.classMap, routing := s.routing, routeConflict := s.routeConflict,
    globalStatus := s.globalStatus, port := s.port }

/-- Every bay but `b`, and every bus but the one of `b`, is as before. -/
def State.SameElsewhere (s t : State) (b : BayId) : Prop :=
  (∀ c : BayId, c ≠ b → t.bay c = s.bay c) ∧ ∀ n : BusId, n ≠ busOf b → t.engine n = s.engine n

/-- Every bay that is not on bus `n`, and every other bus, is as before. -/
def State.SameOffBus (s t : State) (n : BusId) : Prop :=
  (∀ c : BayId, busOf c ≠ n → t.bay c = s.bay c) ∧ ∀ m : BusId, m ≠ n → t.engine m = s.engine m

/-- The configuration fields, the target and the confirmed image of a bay are as before. -/
def Bay.SameOutputs (x y : Bay) : Prop :=
  y.target = x.target ∧ y.targetGen = x.targetGen ∧ y.confirmed = x.confirmed

/-! ## Reset and start-up -/

/-- A command that acts while RESET_N is low: the reset pin, PCS_N and the alert pins (R126, R169). -/
def actsWhileHeld : Instr → Bool
  | .resetNAssert => true
  | .startUp => true
  | .pcsNFall => true
  | .pcsNRise _ => true
  | .xalertAsserted _ => true
  | .xalertDeasserted _ => true
  | _ => false

/-- A command that may change a line or take from the Event Queue by itself: a reset, the end of a pulse phase,
a line control word, a take, and a word of REGISTER_WRITE, which may be any of them (R158, R164, R165, R166). -/
def movesLinesItself : Instr → Bool
  | .resetNAssert => true
  | .startUp => true
  | .softReset _ => true
  | .pulseHighEnd _ => true
  | .pulseGapEnd _ => true
  | .lineControlWrite _ _ => true
  | .takeLineWindow _ => true
  | .takeAnyWindow _ => true
  | .registerWrite _ _ => true
  | _ => false

/-- The reset value of a register (register map, section 10.5); a write-only register reads 0. -/
def Reg.resetValue : Reg → Word
  | .id => 0x00000B16
  | .revision => 0x00000001
  | .busConfig _ => 0x00640301
  | .routing _ => 0x00000004
  | .profileA _ => 0x003200F0
  | .profileB _ => 0x01F40002
  | .bay _ .config => 0x0000101D
  | .bay _ .status => 0x00000E38
  | _ => 0x00000000

/-- The queue entry of a probe (R111, R128). -/
def probeEntry (b : BayId) : Entry :=
  { kind := .probe, bay := b, urgent := false, waiters := .none, carried := none }

/-- A bus right after start-up: its poll timer started, and a hunt of its eight bays running with their
probes queued in ascending order (R91, R141). -/
def startedEngine (n : BusId) : Engine :=
  { Engine.reset with
    queue := (baysOf n).map probeEntry, poll := some 1000,
    hunt := some { hunted := (baysOf n).map fun b => (b, .absent), found := 0, bound := 0 } }

/-- The part right after start-up, the port and the pins apart (R141). -/
def State.StartedUp (t : State) : Prop :=
  t.resetLow = false ∧ t.millis = 0 ∧ (∀ b : BayId, t.bay b = { Bay.reset with link := .probing }) ∧
  (∀ n : BusId, t.engine n = startedEngine n) ∧ t.profiles = State.reset.profiles ∧
  t.classMap = State.reset.classMap ∧ t.events = EventQueue.reset ∧ t.routing = State.reset.routing ∧
  t.routeConflict = false ∧ t.lines = State.reset.lines ∧ t.globalStatus = State.reset.globalStatus ∧
  t.port.flags = PortFlags.clear

/-! ## Transactions on the wire -/

/-- A transaction that counts has an attempt on the wire of bus `n` (R105, R115). -/
def State.OnWire (s : State) (n : BusId) (e : Entry) (attempt : Nat) : Prop :=
  (s.engine n).bus.onWire = some ({ entry := e, ignored := false }, attempt) ∧ s.resetLow = false

/-- The bay's command slot with an accepted command in it (R58). -/
def Slot.holding (c : BayCommand) (tag : Byte) (awaited : Option Half) : Slot :=
  { inProgress := true, code := some c, tag := tag, awaited := awaited, lastResult := .accepted, resultTag := tag }

/-- The bay's command slot with a completed command in it (R59). -/
def Slot.ended (c : BayCommand) (tag : Byte) (r : CommandResult) : Slot :=
  { inProgress := false, code := some c, tag := tag, awaited := none, lastResult := r, resultTag := tag }

/-- The command slot once a completed write has confirmed `c`: a command whose awaited generation it reaches
ends DONE (R60). -/
def Slot.afterWrite (sl : Slot) (c : Written) : Slot :=
  match sl.code, sl.awaited with
  | some k, some g => if genReached (some c) g then Slot.ended k sl.tag .done else sl
  | _, _ => sl

/-- The COMMAND record of that end (R60, R61). -/
def Slot.writeDetails (sl : Slot) (c : Written) : List Detail :=
  match sl.code, sl.awaited with
  | some k, some g => if genReached (some c) g then [.command k sl.tag .done] else []
  | _, _ => []

/-- The command that a bay command word of a row carries. -/
def bayCommandOf (c : BayCommand) (b : BayId) (tag : Byte) (args : CommandArgs) : Instr :=
  match c with
  | .powerOn => .powerOn b tag args
  | .powerOff => .powerOff b tag args
  | .setInd => .setInd b tag args
  | .lock => .lock b tag args
  | .unlock => .unlock b tag args
  | .setAux => .setAux b tag args
  | .clearFault => .clearFault b tag args
  | .refresh => .refresh b tag args

/-- All four argument fields zero (R52). -/
def noArgs : CommandArgs := { indP := 0, indA := 0, aux0 := false, aux1 := false }

/-- The COMMAND, LINK and STATE records of a departure, in their order (R7). -/
def departureDetails (sl : Slot) (dest : LinkState) (cause : LinkCause) : List Detail :=
  (match sl.inProgress, sl.code with
    | true, some c => [.command c sl.tag (departureResult cause)]
    | _, _ => []) ++ [.link dest cause, .state .unknown .link]

/-- Records of one bay enqueued one after the other (R150). -/
def State.enqueueAll (s : State) (src : Source) (ds : List Detail) : State := ds.foldl (fun t d => t.enqueue src d) s

/-- What a departure leaves in the bay record: the sequencing fields cleared, no command in progress, and
everything else as it was (R7). -/
def Bay.Departed (x y : Bay) (dest : LinkState) (cause : LinkCause) : Prop :=
  y = { x with
    link := dest, power := .unknown, timer := none, candidate := none, pendingUp := false, step := none,
    stepGen := none, profile := none, chain := none,
    slot := if x.slot.inProgress then
        { x.slot with inProgress := false, awaited := none, lastResult := departureResult cause,
                      resultTag := x.slot.tag }
      else x.slot }

/-! ## Sweeps and hunts within an event -/

/-- A sweep of bus `n` has started: its waiting bays are the BOUND bays, each with a sweep read queued (R88). -/
def State.SweepStarted (t : State) (n : BusId) : Prop :=
  (t.engine n).sweep = some ((baysOf n).filter fun b => (t.bay b).link = .bound) ∧
  ∀ b : BayId, busOf b = n → (t.bay b).link = .bound →
    ∃ e ∈ (t.engine n).queue, e.kind = .inputRead ∧ e.bay = b ∧ e.waiters.sweep = true

/-- Bay `b` has left the sweep of bus `n`: an emptied sweep has ended, and a new one started if its condition
holds (R89). -/
def State.SweepLeft (s t : State) (n : BusId) (b : BayId) : Prop :=
  match (s.engine n).sweep with
  | none => (t.engine n).sweep = none
  | some waiting =>
    if (waiting.filter fun c => c ≠ b) ≠ [] then (t.engine n).sweep = some (waiting.filter fun c => c ≠ b)
    else if t.sweepCondition n = true then t.SweepStarted n
    else (t.engine n).sweep = none

/-- The hunt once bay `b` has left its set of hunted bays (R127). -/
def Hunt.without (h : Hunt) (b : BayId) : Hunt := { h with hunted := h.hunted.filter fun p => p.1 ≠ b }

/-- What an event leaves of a hunt: one without hunted bays has ended (R130). -/
def huntLeft (h : Option Hunt) : Option Hunt := h.bind fun g => if g.hunted.isEmpty then none else some g

/-- The records of an event with HUNT_DONE after them, where the hunt ends in it (R130). -/
def State.tellHunt (s : State) (n : BusId) (h : Option Hunt) : State :=
  match h with
  | none => s
  | some g => if g.hunted.isEmpty then s.enqueue .part (.huntDone n g.found g.bound) else s

/-- The bays of bus `n` that a hunt reaches (R128). -/
def State.reachable (s : State) (n : BusId) : List BayId :=
  (baysOf n).filter fun b => (s.bay b).config.managed && ((s.bay b).link = .absent || (s.bay b).link = .lost)

/-- The hunt of bus `n` once the bays in PROBING and SETUP have left it (R122, R123). -/
def State.huntDown (s : State) (n : BusId) : Option Hunt :=
  (s.engine n).hunt.map fun h =>
    { h with hunted := h.hunted.filter fun p =>
        !(busOf p.1 = n && ((s.bay p.1).link = .probing || (s.bay p.1).link = .setup)) }

/-- The records of one bay when its bus fails or is restarted (R122, R123 step 5). -/
def bayDownDetails (failing : Bool) (x : Bay) (origin : Option Origin) : List Detail :=
  let cause : LinkCause := if failing then .bus else .restart
  match x.link with
  | .bound => departureDetails x.slot .lost cause
  | .setup => [.link .lost cause]
  | .probing => if failing then (if origin = some .lost then [.link .absent cause] else []) else [.link .lost cause]
  | .absent => []
  | .lost => []

/-- The records of a bus that fails, is restarted or disabled: BUS, then its bays in ascending order, then the
HUNT_DONE of its hunt (R122, R123, R130). -/
def State.tellBusDown (s : State) (n : BusId) (failing : Bool) : State :=
  ((baysOf n).foldl (fun t b => t.enqueueAll (.bay b) (bayDownDetails failing (s.bay b) (s.huntOrigin b)))
    (s.enqueue (.bus n) (.bus failing))).tellHunt n (s.huntDown n)

/-! ## Acceptance and cooldown within an event -/

/-- The records of an acceptance, from the accepted image before and after it (R84). -/
def acceptanceDetails (old new : Accepted) : List Detail :=
  (if new.present ≠ old.present then [.presence new.present new.moduleClass] else []) ++
    (if new.latchClosed ≠ old.latchClosed then [.latch new.latchClosed] else []) ++
    (if new.pressed = true ∧ old.pressed = false then [.button] else []) ++
    (if new.aux0 ≠ old.aux0 ∨ new.aux1 ≠ old.aux1 then [.aux new.aux0 new.aux1] else [])

/-- Bay `b` has entered COOL, and has passed on at once to OFF or RAMP where COOLDOWN is 0 (R34, R35, R48).
`s` is the state in which the drain, the CLEAR_FAULT or the binding ends, with the records told before. -/
def State.CoolEntered (s t : State) (b : BayId) (cause : Option StateCause) : Prop :=
  let x := s.bay b
  let y := t.bay b
  let off := x.slot.runs .powerOff
  let first : List Detail := if off then [.command .powerOff x.slot.tag .done] else []
  let slot := if off then Slot.ended .powerOff x.slot.tag .done else x.slot
  let cool : Detail := .state .cool (cause.getD (if off then .command else .auto))
  let n := (s.profileOf b).cooldown.toNat
  let told (ds : List Detail) : Prop := t.events = (s.enqueueAll (.bay b) ds).events
  y.step = none ∧
  (n ≠ 0 → y.power = .cool ∧ y.timer = some { purpose := .cooldown, left := n } ∧ y.stepGen = none ∧
    y.pendingUp = x.pendingUp ∧ y.profile = x.profile ∧ y.slot = slot ∧ told (first ++ [cool])) ∧
  (n = 0 → x.pendingUp = false → s.autoStartReady b = false → y.power = .off ∧ y.timer = none ∧
    y.stepGen = none ∧ y.profile = none ∧ y.slot = slot ∧ told (first ++ [cool, .state .off .auto])) ∧
  (n = 0 → x.pendingUp = false → s.autoStartReady b = true → y.power = .ramp ∧ y.profile = s.classProfile b ∧
    y.slot = slot ∧ told (first ++ [cool, .state .off .auto])) ∧
  (n = 0 → x.pendingUp = true → s.heldReady b = true → y.power = .ramp ∧ y.profile = s.classProfile b ∧
    y.pendingUp = false ∧ y.slot = slot ∧ told (first ++ [cool])) ∧
  (n = 0 → x.pendingUp = true → s.heldReady b = false → x.slot.runs .powerOn = true →
    y.power = .off ∧ y.profile = none ∧ y.pendingUp = false ∧
    y.slot = Slot.ended .powerOn x.slot.tag .aborted ∧
    told [.command .powerOn x.slot.tag .aborted, cool, .state .off .auto])

end Sys2Proof.Machine
end

