-- ==== Sys2Proof/Certificates/Slice0/Obligations.lean ====
section
/-! DEFINITION. The statements for the provers. -/

open Sys2Proof Sys2Proof.Machine

/-! ## Steps -/

/-- A step takes the command at the front of the queue and runs it on the state with the queue's rest; on
an empty queue the block idles (the model's choice, log entry 1). -/
def Obligations.StepTakesFront : Prop :=
  (∀ (c : Instr) (rest : List Instr) (s : State), s.pending = c :: rest →
    step s = exec c { s with pending := rest }) ∧
  ∀ s : State, s.pending = [] → step s = .next s

/-- No command stops the block, and none touches the queue of commands. That a command whose event cannot
occur leaves the state as it is, is the model's choice (log entry 2). -/
def Obligations.EveryCommandCompletes : Prop :=
  ∀ (c : Instr) (s : State), ∃ t, exec c s = .next t ∧ t.pending = s.pending

/-- While RESET_N is low every command but those of the pins changes nothing (the model's choice, log entry 7; R126
and R17 say so of the engines and the tick); and a register word that the port does not take, because no frame is
open or the frame has come to another address, changes nothing (the model's choice, log entry 5). -/
def Obligations.IgnoredCommands : Prop :=
  (∀ (c : Instr) (s : State), s.resetLow = true → actsWhileHeld c = false → exec c s = .next s) ∧
  ∀ (c : Instr) (a : Addr) (s : State), c.wordAddr = some a → s.takesWord a = false → exec c s = .next s

/-! ## Reset, start-up, Timebase -/

/-- Every register reads its reset value of the register map in the reset state, a write-only register always
reads 0, and a reserved address reads 0; a burst reads the words at rising addresses. The global, bus, queue and
Router words and the take windows show the state in the fields of section 10.5, a count as wide as its field. That
the last byte of the missed count words, which no source names, reads 0 in every state is the model's choice (log
entry 23). -/
def Obligations.RegisterReads : Prop :=
  (∀ r : Reg, State.reset.readReg r = r.resetValue) ∧
  (∀ (r : Reg) (s : State), r.access = .writeOnly → s.readReg r = 0) ∧
  (∀ (a : Addr) (s : State), (regAt a = none → s.readWord a = 0) ∧
    ∀ r, regAt a = some r → s.readWord a = s.readReg r) ∧
  (∀ (n i : Nat) (a : Addr) (s : State), (s.readBurst n a).length = n ∧
    (i < n → (s.readBurst n a)[i]? = some (s.readWord (a + BitVec.ofNat 12 (4 * i))))) ∧
  (∀ s : State,
    let field (r : Reg) (lo len : Nat) : Nat := (fieldOf (s.readReg r) lo len).toNat
    field .globalStatus 0 4 = s.globalStatus.code.toNat ∧
    field .globalStatus 8 4 = s.globalStatus.result.code ∧
    field .globalStatus 16 8 = s.globalStatus.tag.toNat ∧
    field .globalStatus 24 1 = flagNat (s.engine 0).hunt.isSome ∧
    field .globalStatus 25 1 = flagNat (s.engine 1).hunt.isSome ∧
    field .globalStatus 28 1 = flagNat s.routeConflict ∧
    s.readReg .millis = s.millis ∧
    field .portStatus 0 1 = flagNat s.port.flags.frameShort ∧
    field .portStatus 1 1 = flagNat s.port.flags.badAddress ∧
    field .portStatus 2 1 = flagNat s.port.flags.readOnlyWrite ∧
    field .portStatus 3 1 = flagNat s.port.flags.configRefused ∧
    field .queueStatus 0 1 = flagNat s.events.overflow ∧
    field .queueStatus 8 6 = s.events.records.length % 64 ∧
    field .queueStatus 16 16 = s.events.seqCounter.toNat ∧
    (∀ k : LineId, field .lineCounts (8 * k.val) 6 = s.events.lineCount (some k) % 64) ∧
    field .noneCount 0 6 = s.events.lineCount none % 64 ∧
    classMapOf (s.readReg .classMap) = some s.classMap) ∧
  (∀ (n : BusId) (s : State),
    let field (lo len : Nat) : Nat := (fieldOf (s.readReg (.busStatus n)) lo len).toNat
    BusConfig.ofWord (s.readReg (.busConfig n)) = some (s.engine n).config ∧
    field 0 2 = (s.engine n).bus.code ∧ field 4 5 = (s.engine n).queue.length % 32 ∧
    field 9 1 = flagNat (s.engine n).bus.current.isSome ∧
    (∀ tx, (s.engine n).bus.current = some tx →
      field 10 2 = tx.entry.kind.code ∧ field 12 3 = tx.entry.bay.val % 8) ∧
    field 16 4 = (s.engine n).bus.attemptNumber % 16 ∧ field 20 2 = (s.engine n).bus.failedPasses % 4 ∧
    field 24 1 = flagNat s.alerts[n] ∧ field 25 1 = flagNat (s.engine n).sweep.isSome) ∧
  (∀ (k : LineId) (s : State),
    let field (lo len : Nat) : Nat := (fieldOf (s.readReg (.lineControl k)) lo len).toNat
    field 0 1 = flagNat (s.lines[k]).enable ∧ field 1 1 = flagNat (s.lines[k]).pulse ∧
    field 2 1 = flagNat (s.lines[k]).activeHigh ∧ field 8 1 = flagNat (s.lineAsserted k) ∧
    field 9 2 = (s.lines[k]).phase.code ∧ field 11 1 = flagNat (s.lines[k]).owed) ∧
  (∀ (i : Fin 5) (j : Fin 4) (s : State), (fieldOf (s.readReg (.missed i)) (8 * j.val) 8).toNat =
    if h : 4 * i.val + j.val < 19 then (s.events.missed[4 * i.val + j.val]).toNat else 0) ∧
  (∀ (i : SourceId) (s : State), (fieldOf (s.readReg (.routing i)) 0 3).toNat = lineCode (s.routing[i]).line ∧
    (fieldOf (s.readReg (.routing i)) 4 1).toNat = flagNat (s.routing[i]).excl) ∧
  (∀ (p : ProfileId) (s : State),
    ((s.profiles[p]).withWordA (s.readReg (.profileA p))).withWordB (s.readReg (.profileB p)) = s.profiles[p]) ∧
  ∀ (k : Fin 5) (s : State),
    let field (i : Fin 4) (lo len : Nat) : Nat := (fieldOf (s.readReg (.window k i)) lo len).toNat
    (s.events.windows[k] = none → ∀ i : Fin 4, s.readReg (.window k i) = 0) ∧
    ∀ r, s.events.windows[k] = some r →
      field 0 0 16 = r.seq.toNat ∧ field 0 16 4 = r.detail.kind.code ∧ field 0 20 5 = r.source.index.val ∧
      field 0 25 3 = lineCode r.line ∧ field 0 30 1 = flagNat r.missed.isSome ∧ field 0 31 1 = 1 ∧
      s.readReg (.window k 1) = r.time ∧ field 3 0 8 = r.count.toNat ∧
      (∀ m, r.missed = some m → field 3 8 8 = m.toNat) ∧
      match r.detail with
      | .presence p c => field 2 0 1 = flagNat p ∧ field 2 4 1 = flagNat c.isSome ∧
          ∀ v, c = some v → field 2 1 3 = v.toNat
      | .latch c => field 2 0 1 = flagNat c
      | .button => field 2 0 1 = 1
      | .aux a b => field 2 0 1 = flagNat a ∧ field 2 1 1 = flagNat b
      | .state p c => field 2 0 4 = p.code ∧ field 2 4 4 = c.code
      | .link l c => field 2 0 4 = l.code ∧ field 2 4 4 = c.code
      | .command c t res => field 2 0 4 = c.code ∧ field 2 8 8 = t.toNat ∧ field 2 16 4 = res.code
      | .fault f => field 2 0 4 = f.code
      | .bus failed => field 2 0 4 = if failed then 3 else 0
      | .huntDone n f b => field 2 0 1 = n.val ∧ field 2 8 4 = f % 16 ∧ field 2 16 4 = b % 16

/-- The words of a bay block show the bay record in the fields of section 10.5; the command register reads 0. -/
def Obligations.BayBlockReads : Prop :=
  ∀ (b : BayId) (s : State),
    let x := s.bay b
    let field (w : BayWord) (lo len : Nat) : Nat := (fieldOf (s.readReg (.bay b w)) lo len).toNat
    BayConfig.ofWord (s.readReg (.bay b .config)) = x.config ∧ s.readReg (.bay b .command) = 0 ∧
    field .commandStatus 0 1 = flagNat x.slot.inProgress ∧
    field .commandStatus 4 4 = (match x.slot.code with | none => 0 | some c => c.code) ∧
    field .commandStatus 8 8 = x.slot.tag.toNat ∧ field .commandStatus 16 4 = x.slot.lastResult.code ∧
    field .commandStatus 24 8 = x.slot.resultTag.toNat ∧
    field .status 0 3 = x.link.code ∧ field .status 3 4 = x.power.code ∧
    field .status 7 2 = SeqStep.code x.step ∧
    field .status 9 3 = (match x.profile with | none => 7 | some p => p.val) ∧
    field .status 12 1 = flagNat x.pendingUp ∧ field .status 13 1 = flagNat x.idleNote ∧
    field .status 14 1 = flagNat x.timer.isSome ∧ field .status 15 1 = flagNat x.slot.awaited.isSome ∧
    field .status 16 1 = flagNat x.stepGen.isSome ∧ field .status 17 1 = flagNat x.confirmed.isSome ∧
    field .status 18 1 = flagNat x.sampled.isSome ∧
    field .accepted 0 1 = flagNat x.accepted.present ∧ field .accepted 1 1 = flagNat x.accepted.latchClosed ∧
    field .accepted 2 1 = flagNat x.accepted.pressed ∧ field .accepted 3 1 = flagNat x.accepted.aux0 ∧
    field .accepted 4 1 = flagNat x.accepted.aux1 ∧
    (∀ c, x.accepted.moduleClass = some c → field .accepted 8 3 = c.toNat) ∧
    field .accepted 11 1 = flagNat x.accepted.moduleClass.isSome ∧
    field .accepted 12 2 = candidateCode x.candidate ∧
    field .accepted 14 1 = flagNat x.auxDirs.aux0 ∧ field .accepted 15 1 = flagNat x.auxDirs.aux1 ∧
    (∀ m, x.sampled = some m →
      field .sampled 0 16 = m.levels.toNat ∧ s.readReg (.bay b .sampleTime) = m.time) ∧
    field .sampled 16 1 = flagNat x.live.fault ∧ field .sampled 17 1 = flagNat x.live.pgood ∧
    (let shows (w : BayWord) (i : Image) : Prop :=
      field w 0 1 = flagNat i.pwrEn ∧ field w 1 1 = flagNat i.clkEn ∧ field w 2 1 = flagNat i.released ∧
      field w 4 2 = i.indP.code ∧ field w 6 2 = i.indA.code ∧ field w 8 1 = flagNat i.lock ∧
      field w 9 1 = flagNat i.aux0 ∧ field w 10 1 = flagNat i.aux1
     shows .target x.target ∧
     ∀ w, x.confirmed = some w → shows .confirmed w.image ∧ field .confirmed 12 1 = flagNat w.dirs.aux0 ∧
       field .confirmed 13 1 = flagNat w.dirs.aux1 ∧ field .generations 16 16 = w.gen.toNat) ∧
    field .confirmed 31 1 = flagNat x.confirmed.isSome ∧ field .generations 0 16 = x.targetGen.toNat ∧
    (∀ g, x.slot.awaited = some g → field .awaited 0 16 = g.toNat) ∧
    (∀ g, x.stepGen = some g → field .awaited 16 16 = g.toNat) ∧
    field .faults 0 3 = x.faultKind.code ∧ field .faults 8 8 = x.faultCount.toNat ∧
    field .faults 16 8 = x.failures.toNat

/-- RESET_N_ASSERT puts every block at its reset values; START_UP then releases the part, starts the poll
timers and hunts both buses. A global control word with SOFT_RESET 1 resets every block, discards the rest of its
frame and starts up; one with SOFT_RESET 0 has no effect. What a RESET_N does to PCS_N's frame and the status
byte, and that the alert levels pass through each of these resets, are the model's choice (log entries 7, 8). -/
def Obligations.Resets : Prop :=
  (∀ s : State, exec .resetNAssert s = .next
    { State.reset with
      pending := s.pending, alerts := s.alerts,
      port := { State.reset.port with frame := s.port.frame.heldLow } }) ∧
  (∀ s : State, s.resetLow = true → ∃ t, exec .startUp s = .next t ∧ t.StartedUp ∧ t.pending = s.pending ∧
    t.alerts = s.alerts ∧ t.port.frame = s.port.frame.heldLow) ∧
  ∀ (w : Word) (s : State), s.takesWord Reg.globalControl.addr = true →
    (bitOf w 0 = true → ∃ t, exec (.softReset w) s = .next t ∧ t.StartedUp ∧ t.pending = s.pending ∧
      t.alerts = s.alerts ∧ t.port.frame = .discarding) ∧
    (bitOf w 0 = false → exec (.softReset w) s = .next (s.afterWord Reg.globalControl.addr))

/-- A tick advances the millisecond counter and ages every running timer, and nothing else. That a timer which
has run out stays due until its own command comes is the model's choice (log entry 3). -/
def Obligations.TickAgesTimers : Prop :=
  ∀ s : State, s.resetLow = false → ∃ t, exec .timebaseTick s = .next t ∧ t.millis = s.millis + 1 ∧
    (∀ b : BayId, t.bay b =
      { s.bay b with
        timer := (s.bay b).timer.map fun x => { x with left := x.left - 1 },
        candidate := (s.bay b).candidate.map fun c =>
          match c.phase with
          | .timing n => { c with phase := .timing (n - 1) }
          | .confirming => c }) ∧
    (∀ n : BusId, (t.engine n).poll = (s.engine n).poll.map (fun k => k - 1) ∧
      (t.engine n).bus = (s.engine n).bus.age ∧ (t.engine n).config = (s.engine n).config ∧
      (t.engine n).queue = (s.engine n).queue ∧ (t.engine n).sweep = (s.engine n).sweep ∧
      (t.engine n).hunt = (s.engine n).hunt) ∧
    { t with millis := s.millis, bays := s.bays, engines := s.engines } = s

/-! ## Register Port -/

/-- The falling edge of PCS_N begins a frame and takes the status byte, whose bits show the queue, OVERFLOW,
the per-line counts and the port error flags; while RESET_N is low it begins no frame, and the port waits for the
rise. The rising edge ends the frame: FRAME_SHORT is set for 1 to 15 bits of a header and for a partial write
word, and nothing else happens. That the command carries the bits since the frame's last event is the model's
choice (log entry 5). -/
def Obligations.FrameEdges : Prop :=
  (∀ s : State, s.resetLow = false → s.port.frame = .closed →
    ∃ v : Byte, exec .pcsNFall s = .next { s with port := { s.port with frame := .opened none, statusByte := v } } ∧
      v.getLsbD 7 = !s.events.records.isEmpty ∧ v.getLsbD 6 = s.events.overflow ∧
      v.getLsbD 5 = decide (0 < s.events.lineCount (some 3)) ∧
      v.getLsbD 4 = decide (0 < s.events.lineCount (some 2)) ∧
      v.getLsbD 3 = decide (0 < s.events.lineCount (some 1)) ∧
      v.getLsbD 2 = decide (0 < s.events.lineCount (some 0)) ∧
      v.getLsbD 1 = s.port.flags.any ∧ v.getLsbD 0 = false) ∧
  (∀ s : State, s.resetLow = true → s.port.frame = .closed →
    exec .pcsNFall s = .next { s with port := { s.port with frame := .waiting } }) ∧
  ∀ (bits : List Bool) (s : State),
    (s.port.frame.cutShort bits = false →
      exec (.pcsNRise bits) s = .next { s with port := { s.port with frame := .closed } }) ∧
    (s.port.frame.cutShort bits = true →
      exec (.pcsNRise bits) s = .next
        { s with port := { s.port with frame := .closed, flags := { s.port.flags with frameShort := true } } }) ∧
    (s.port.frame = .opened none → s.port.frame.cutShort [] = false) ∧
    (s.port.frame = .opened none → 0 < bits.length → bits.length < 16 → s.port.frame.cutShort bits = true) ∧
    (s.port.frame = .opened none → 16 ≤ bits.length → bits.head? = some false →
      s.port.frame.cutShort bits = false) ∧
    (s.port.frame = .opened none → 16 < bits.length → bits.length < 48 → bits.head? = some true →
      s.port.frame.cutShort bits = true) ∧
    (∀ a, s.port.frame = .opened (some a) → bits.length < 32 →
      s.port.frame.cutShort bits = decide (0 < bits.length)) ∧
    (s.port.frame = .discarding ∨ s.port.frame = .waiting → s.port.frame.cutShort bits = false)

/-- The two header bytes give the direction and address bits 11 to 2, and every 32 bits after the header of a
write frame are a data word, each at the address of the one before plus 4. PDO is high impedance outside a frame,
while RESET_N is low and while the port waits for a rise; in a frame it shifts out the status byte, then 0, then
in a read frame each word as its register stands when it is captured. That a frame is its fall, its words and its
rise, as commands, is the model's choice (log entry 5). -/
def Obligations.FrameBits : Prop :=
  (∀ (write : Bool) (a : Addr) (ignored : BitVec 5) (rest : List Bool),
    Header.ofBits (write :: ((List.finRange 10).map fun i => a.getLsbD (11 - i.val)) ++
      ((List.finRange 5).map fun i => ignored.getLsbD i.val) ++ rest) = some { write := write, addr := a &&& 0xFFC }) ∧
  (∀ bits : List Bool, bits.length < 16 → Header.ofBits bits = none) ∧
  (∀ (n : Nat) (a : Addr) (w : Word) (rest : List Bool),
    dataWords (n + 1) a (((List.finRange 32).map fun i => w.getLsbD (31 - i.val)) ++ rest) =
      (a, w) :: dataWords n (a + 4) rest) ∧
  (∀ (bits : List Bool) (h : Header) (n k : Nat), Header.ofBits bits = some h → h.write = true →
    bits.length = 16 + 32 * n + k → k < 32 → 0 < n →
    frameCommands bits = .pcsNFall ::
      ((dataWords n h.addr (bits.drop 16)).map fun p => .registerWrite p.1 p.2) ++
        [.pcsNRise (bits.drop (16 + 32 * n))]) ∧
  (∀ (bits : List Bool) (words : List Word) (s : State),
    s.resetLow = true ∨ s.port.frame = .closed ∨ s.port.frame = .waiting →
    s.pdo bits words = none ∧ s.capture bits = none) ∧
  ∀ (bits : List Bool) (words : List Word) (s : State), s.resetLow = false →
    (∀ a, s.port.frame = .opened (some a) → s.pdo bits words = some false ∧ s.capture bits = none) ∧
    (s.port.frame = .opened none →
      (bits.length < 8 → s.pdo bits words = some (s.port.statusByte.getLsbD (7 - bits.length))) ∧
      (8 ≤ bits.length → bits.length < 24 → s.pdo bits words = some false) ∧
      ∀ h, Header.ofBits bits = some h →
        (h.write = true → s.pdo bits words = some false ∧ s.capture bits = none) ∧
        (h.write = false → ∀ j i : Nat, i < 32 → bits.length = 24 + 32 * j + i →
          (∀ w, words[j]? = some w → s.pdo bits words = some (w.getLsbD (31 - i))) ∧
          s.capture bits = if i = 0 then some (s.readWord (h.addr + BitVec.ofNat 12 (4 * j))) else none))

/-- A word to a reserved address sets BAD_ADDRESS, one to a read-only register READ_ONLY_WRITE, and neither
does anything else; a global control word with SOFT_RESET 0 does nothing (R177). Writing 1 to the position of a flag
clears it, writing 0 leaves it, and nothing else changes. That a REGISTER_WRITE at any register has that register's
own effect is the model's choice (log entry 6). -/
def Obligations.PlainRegisterWords : Prop :=
  (∀ (a : Addr) (w : Word) (s : State), s.takesWord a = true → a.toNat % 4 = 0 →
    (regAt a = none → exec (.registerWrite a w) s = .next (s.afterWord a).setBadAddress) ∧
    (∀ r, regAt a = some r → r.access = .readOnly →
      exec (.registerWrite a w) s = .next (s.afterWord a).setReadOnlyWrite) ∧
    (regAt a = some .globalControl → bitOf w 0 = false → exec (.registerWrite a w) s = .next (s.afterWord a))) ∧
  (∀ (w : Word) (s : State), s.takesWord Reg.queueStatus.addr = true →
    exec (.overflowClear w) s = .next
      { s.afterWord Reg.queueStatus.addr with
        events := { s.events with overflow := if bitOf w 0 then false else s.events.overflow } }) ∧
  (∀ (w : Word) (s : State), s.takesWord Reg.globalStatus.addr = true →
    exec (.routeConflictClear w) s = .next
      { s.afterWord Reg.globalStatus.addr with
        routeConflict := if bitOf w 28 then false else s.routeConflict }) ∧
  ∀ (w : Word) (s : State), s.takesWord Reg.portStatus.addr = true →
    ∃ t, exec (.portErrorClear w) s = .next t ∧
      t.port.flags =
        { frameShort := if bitOf w 0 then false else s.port.flags.frameShort,
          badAddress := if bitOf w 1 then false else s.port.flags.badAddress,
          readOnlyWrite := if bitOf w 2 then false else s.port.flags.readOnlyWrite,
          configRefused := if bitOf w 3 then false else s.port.flags.configRefused } ∧
      { t with port := { t.port with flags := s.port.flags } } = s.afterWord Reg.portStatus.addr

/-- Each register stands at its own address, and a word to a register that has a command of its own is that
command; a command row for undefined codes with a defined code is the command of that code (the model's choice,
log entries 6, 22). -/
def Obligations.RegisterWordsAreCommands : Prop :=
  (∀ r : Reg, regAt r.addr = some r) ∧ (∀ (a : Addr) (r : Reg), regAt a = some r → r.addr = a) ∧
  (∀ (c : BayCommand) (b : BayId) (tag : Byte) (args : CommandArgs) (s : State),
    exec (.undefinedBayCommand b (BitVec.ofNat 4 c.code) tag args) s = exec (bayCommandOf c b tag args) s) ∧
  (∀ (m : BusMask) (tag : Byte) (s : State),
    exec (.undefinedGlobalCommand 1 m tag) s = exec (.hunt m tag) s ∧
    exec (.undefinedGlobalCommand 2 m tag) s = exec (.busRestart m tag) s) ∧
  ∀ (w : Word) (s : State),
    exec (.registerWrite Reg.globalControl.addr w) s = exec (.softReset w) s ∧
    exec (.registerWrite Reg.globalCommand.addr w) s =
      exec (.undefinedGlobalCommand (commandCodeOf w) (busMaskOf w) (commandTagOf w)) s ∧
    exec (.registerWrite Reg.globalStatus.addr w) s = exec (.routeConflictClear w) s ∧
    exec (.registerWrite Reg.portStatus.addr w) s = exec (.portErrorClear w) s ∧
    exec (.registerWrite Reg.queueStatus.addr w) s = exec (.overflowClear w) s ∧
    exec (.registerWrite Reg.take.addr w) s = exec (.takeLineWindow w) s ∧
    exec (.registerWrite Reg.take.addr w) s = exec (.takeAnyWindow w) s ∧
    exec (.registerWrite Reg.classMap.addr w) s = exec (.classMapWrite w) s ∧
    (∀ n, exec (.registerWrite (Reg.busConfig n).addr w) s = exec (.busConfigurationWrite n w) s) ∧
    (∀ k, exec (.registerWrite (Reg.lineControl k).addr w) s = exec (.lineControlWrite k w) s) ∧
    (∀ i, exec (.registerWrite (Reg.routing i).addr w) s = exec (.routingEntryWrite i w) s) ∧
    (∀ p, exec (.registerWrite (Reg.profileA p).addr w) s = exec (.profileWrite p false w) s) ∧
    (∀ p, exec (.registerWrite (Reg.profileB p).addr w) s = exec (.profileWrite p true w) s) ∧
    (∀ b, exec (.registerWrite (Reg.bay b .config).addr w) s = exec (.bayConfigurationWrite b w) s) ∧
    (∀ b, exec (.registerWrite (Reg.bay b .command).addr w) s =
      exec (.undefinedBayCommand b (commandCodeOf w) (commandTagOf w) (commandArgsOf w)) s)

/-! ## Words and images -/

/-- Every word with named fields gives back the fields it was made from; a line control word read back names the
line's fields, and written back sets them again; every TAKE word names its window. The encoding of an output
image decodes to that image, but for the levels of AUX lines that are inputs, and is consistent with its AUX
directions; the law of R12 shows in its bits. -/
def Obligations.WordsAndImagesRoundTrip : Prop :=
  (∀ (code : BitVec 4) (tag : Byte) (args : CommandArgs),
    commandCodeOf (bayCommandWord code tag args) = code ∧ commandTagOf (bayCommandWord code tag args) = tag ∧
    commandArgsOf (bayCommandWord code tag args) = args) ∧
  (∀ (code : BitVec 4) (m : BusMask) (tag : Byte),
    commandCodeOf (globalCommandWord code m tag) = code ∧ busMaskOf (globalCommandWord code m tag) = m ∧
    commandTagOf (globalCommandWord code m tag) = tag) ∧
  (∀ c : BayConfig, BayConfig.ofWord c.toWord = c) ∧
  (∀ p : Profile, (p.withWordA p.wordA).withWordB p.wordB = p) ∧
  (∀ m : Vector (Option ProfileId) 8, classMapOf (classMapWord m) = some m) ∧
  (∀ c : BusConfig, BusConfig.ofWord c.toWord = some c) ∧
  (∀ r : Route, (r.line = none → r.excl = false) → Route.ofWord r.toWord = some r) ∧
  (∀ (k : LineId) (l : Line) (count : Nat) (s : State),
    (l.written (s.lineWord k) count).enable = (s.lines[k]).enable ∧
    (l.written (s.lineWord k) count).pulse = (s.lines[k]).pulse ∧
    (l.written (s.lineWord k) count).activeHigh = (s.lines[k]).activeHigh) ∧
  (∀ v : BitVec 3, fieldOf (packWord [(0, v.toNat)]) 0 3 = v) ∧
  ∀ (i : Image) (d : Dirs),
    (i.encode d).decode = { i with aux0 := i.aux0 && d.aux0, aux1 := i.aux1 && d.aux1 } ∧
    (i.encode d).consistent d = true ∧ (i.encode d).direction = requiredDirection d ∧
    (i.lawful = true →
      ((i.encode d).output.getLsbD 2 = true → (i.encode d).output.getLsbD 1 = true) ∧
      ((i.encode d).output.getLsbD 1 = true → (i.encode d).output.getLsbD 0 = true))

/-- A byte goes over the wire most significant bit first with its acknowledge bit after it, low to acknowledge, and
XSDAn moves only while XSCLn is low. A start is a fall of XSDAn while XSCLn is high, a stop a rise, and an
undisturbed attempt has a stop at its end alone. A recovery pass is nine clocks with XSDAn released by the part and a
stop; it succeeds exactly when XSDAn is high after the stop and no clock was held for 12 ms, and it lets a partner
that was cut off in a byte finish. A soft reset ends an attempt or a pass with a stop, a BUS_RESTART ends an attempt
so, and a RESET_N releases the lines. -/
def Obligations.WireLevelsOfAttemptsAndPasses : Prop :=
  (∀ (v : Byte) (acked : Bool),
    ((byteLevels v acked).filter WireLevels.clock).map WireLevels.data =
      [v.getLsbD 7, v.getLsbD 6, v.getLsbD 5, v.getLsbD 4, v.getLsbD 3, v.getLsbD 2, v.getLsbD 1, v.getLsbD 0,
       !acked] ∧
    startsIn (byteLevels v acked) = 0 ∧ stopsIn (byteLevels v acked) = 0) ∧
  (startsIn startLevels = 1 ∧ stopsIn startLevels = 0 ∧ startsIn repeatedStartLevels = 1 ∧
    stopsIn repeatedStartLevels = 0 ∧
    ∀ after : Bool, startsIn (stopLevels after) = 0 ∧ stopsIn (stopLevels after) = if after then 1 else 0) ∧
  (∀ (e : Expander) (t : Entry) (board : Half),
    t.carried ≠ none ∨ (t.kind ≠ .outputWrite ∧ t.kind ≠ .setup .forceSafe) →
    let run := e.attempt t board .quiet
    run.result = .succeeded ∧ run.wire = t.shape ∧ stopsIn run.levels = 1 ∧
    startsIn run.levels = t.shape.countP (fun x => x = .start || x = .repeatedStart) ∧
    ∃ before, run.levels = before ++ stopLevels true) ∧
  (∀ partners : Vector Bool 10,
    let run := recoveryPass partners none
    (run.levels.filter WireLevels.clock).map WireLevels.data =
      partners.toList.take 9 ++ [false, partners[9]] ∧
    startsIn run.levels = 0 ∧ run.result = if partners[9] then .succeeded else .failed) ∧
  (∀ (partners : Vector Bool 10) (k : Fin 9),
    (recoveryPass partners (some (k, .clockHeld))).result = .failed ∧
    ((recoveryPass partners (some (k, .clockHeld))).levels.filter WireLevels.clock).map WireLevels.data =
      partners.toList.take k.val ∧
    (recoveryPass partners (some (k, .stopped))).result = .abandoned ∧
    ∃ before, (recoveryPass partners (some (k, .stopped))).levels = before ++ stopLevels partners[k.castSucc]) ∧
  (∀ (v : Byte) (sent : Fin 9), (recoveryPass (cutSender v sent) none).result = .succeeded) ∧
  ∀ (n : BusId) (s : State),
    (s.resetLow = true ∨ (s.engine n).bus = .idle ∨ (s.engine n).bus = .failed →
      s.drivesBus n = false ∧ ∀ ender, s.wireEnd n ender = none) ∧
    (s.resetLow = false → ∀ tx a sp st, ((s.engine n).bus = .active tx a sp st ∨
        ∃ p, (s.engine n).bus = .recovering tx a p sp st) →
      s.drivesBus n = true ∧ s.wireEnd n .softReset = some .stopped ∧ s.wireEnd n .resetN = some .released ∧
      ((s.engine n).bus = .active tx a sp st → s.wireEnd n .restart = some .stopped))

/-- A write that nothing disturbs leaves its expander's registers at the encoding of the carried image, its lines
0 to 7 showing that image, and the SETUP_READ that follows returns those eight bytes. A line that is a steady
output has its OUTPUT level on its pin, and an input line the level of the board. -/
def Obligations.ExpanderKeepsWrite : Prop :=
  (∀ (e : Expander) (b : BayId) (c : Written) (board : Half),
    let write : Entry := { kind := .outputWrite, bay := b, urgent := false, waiters := .none, carried := some c }
    let read : Entry := { kind := .setup .setupRead, bay := b, urgent := false, waiters := .none, carried := none }
    let run := e.attempt write board .quiet
    let back := run.expander.attempt read board .quiet
    run.result = .succeeded ∧ run.wire = write.shape ∧ run.received = [] ∧
    run.expander.regs = c.image.encode c.dirs ∧ run.expander.snapshot = e.snapshot ∧
    run.expander.shows = c.image.shows c.dirs ∧
    back.result = .succeeded ∧ back.wire = read.shape ∧ back.received = (c.image.encode c.dirs).bytes ∧
    back.expander.regs = run.expander.regs ∧ back.expander.snapshot = e.snapshot) ∧
  ∀ (e : Expander) (i : Fin 16) (board : Half),
    (∀ high, e.regs.lineDrive i = .steady high → (e.pins board).getLsbD i.val = high) ∧
    (e.regs.lineDrive i = .input → (e.pins board).getLsbD i.val = board.getLsbD i.val)

/-- A write that fails leaves its expander with the bytes acknowledged before the failure and the old bytes for
the rest, the three power lines all old or all new; after a NACK the part sends a stop at once. A read leaves
every register as it was, however it is disturbed, and a read that begins at another index takes no snapshot unless
its address or index byte is disturbed. An INPUT_READ takes the snapshot and releases the alert when INPUT low is
sent, whether or not it then succeeds; the part acknowledges every data byte but the last. Bits clocked in while the
data line is held low read 0, and the hold is found at the stop. That a byte cut off before its acknowledge bit has
not been stored or sent is the model's choice (log entry 13). -/
def Obligations.ExpanderFailures : Prop :=
  (∀ (e : Expander) (b : BayId) (c : Written) (board : Half) (j : Nat), j < 8 →
    let write : Entry := { kind := .outputWrite, bay := b, urgent := false, waiters := .none, carried := some c }
    let new := c.image.encode c.dirs
    let mixed (r : Regs) : Prop :=
      r.bytes = new.bytes.take j ++ e.regs.bytes.drop j ∧
      (r.output &&& 7 = e.regs.output &&& 7 ∨ r.output &&& 7 = new.output &&& 7)
    let refused := e.attempt write board (.refused (3 + j))
    let held (bit : Nat) := e.attempt write board (.clockHeld (3 + j) bit)
    refused.result = .nack ∧ refused.wire = write.shape.take (4 + j) ++ [.stop] ∧ mixed refused.expander.regs ∧
    ∀ bit, (held bit).result = .timeout ∧ (held bit).wire = write.shape.take (3 + j) ∧
      mixed (held bit).expander.regs) ∧
  (∀ (e : Expander) (t : Entry) (d : Disturbance) (board : Half), t.kind ≠ .outputWrite →
    t.kind ≠ .setup .forceSafe → (e.attempt t board d).expander.regs = e.regs ∧
      (t.kind ≠ .inputRead → t.kind ≠ .setup .seedingRead → d.lowBits 1 = 0 → d.lowBits 2 = 0 →
        (e.attempt t board d).expander.snapshot = e.snapshot)) ∧
  (∀ (e : Expander) (t : Entry) (board : Half), t.carried ≠ none ∨ (t.kind ≠ .outputWrite ∧ t.kind ≠ .setup .forceSafe) →
    let silent := e.attempt t board (.refused 1)
    silent.expander = e ∧ silent.wire = [.start, .send (addressByte t.bay false), .stop] ∧
    silent.levels = startLevels ++ byteLevels (addressByte t.bay false) false ++ stopLevels true ∧
    silent.received = [] ∧ silent.result = .nack) ∧
  ∀ (e : Expander) (t : Entry) (board : Half), t.kind = .inputRead ∨ t.kind = .setup .seedingRead →
    let run := e.attempt t board .quiet
    run.result = .succeeded ∧
    run.received = [lowByte (e.pins board), highByte (e.pins board), lowByte e.regs.output,
      highByte e.regs.output, lowByte e.regs.direction, highByte e.regs.direction] ∧
    run.expander.snapshot = some (e.pins board) ∧ run.expander.alert board = false ∧
    run.wire = [.start, .send (addressByte t.bay false), .send 0x00, .repeatedStart,
      .send (addressByte t.bay true), .recv true, .recv true, .recv true, .recv true, .recv true, .recv false,
      .stop] ∧
    (∀ j bit, j < 6 → (e.attempt t board (.clockHeld (5 + j) bit)).result = .timeout ∧
      (e.attempt t board (.clockHeld (5 + j) bit)).expander.snapshot =
        if j = 0 then e.snapshot else some (e.pins board)) ∧
    ∀ low : BitVec 9, (e.attempt t board (.dataHeld [(5, low), (11, 1)])).result = .timeout ∧
      (e.attempt t board (.dataHeld [(5, low), (11, 1)])).received.head? =
        some (lowByte (e.pins board) &&& ~~~low.extractLsb' 1 8)

/-! ## Configuration -/

/-- A bay configuration word with DEBOUNCE 0, or one that R8 refuses the release of, changes no field and
sets CONFIG_REFUSED. Another takes every field. Where it starts no release, AUTO_ON set from 0 starts an OFF bay
that meets the conditions of R30, and AUTO_IND set from 0 gives the target IND_P of a BOUND bay the mode of its
power state and stage; nothing else happens. -/
def Obligations.BayConfigurationWord : Prop :=
  ∀ (b : BayId) (w : Word) (s : State), s.takesWord (Reg.bay b .config).addr = true →
    let x := s.bay b
    let c := BayConfig.ofWord w
    let s' := s.afterWord (Reg.bay b .config).addr
    let plain : Prop := exec (.bayConfigurationWrite b w) s = .next (s'.modifyBay b fun y => { y with config := c })
    (c.debounce = 0 ∨ (x.config.managed = true ∧ c.managed = false ∧ x.releaseRefused = true) →
      exec (.bayConfigurationWrite b w) s = .next s'.setConfigRefused) ∧
    (c.debounce ≠ 0 → ¬ (x.config.managed = true ∧ c.managed = false) →
      let corrects : Prop := x.config.autoInd = false ∧ c.autoInd = true ∧ x.link = .bound ∧ x.indicatorMode ≠ none
      let rests : Prop := x.config.autoOn = true ∨ c.autoOn = false ∨ x.power ≠ .off ∨ x.accepted.present = false ∨
        x.accepted.latchClosed = false ∨ s.classProfile b = none
      (rests → ¬ corrects → plain) ∧
      (rests → x.config.autoInd = false → c.autoInd = true → x.link = .bound → ∀ m, x.indicatorMode = some m →
        ∃ t, exec (.bayConfigurationWrite b w) s = .next t ∧
          t.bay b = { x with
            config := c, target := { x.target with indP := m },
            targetGen := if x.target.indP = m then x.targetGen else x.targetGen + 1 } ∧
          (x.target.indP ≠ m → (s.engine (busOf b)).takes = true →
            (t.engine (busOf b)).queue = queueWrite (s.engine (busOf b)).queue b false) ∧
          t.events = s.events ∧ s.SameElsewhere t b ∧ t.shell = s'.shell) ∧
      (x.config.autoOn = false → c.autoOn = true → x.power = .off → x.accepted.present = true →
        x.accepted.latchClosed = true → s.classProfile b ≠ none →
        ∃ t, exec (.bayConfigurationWrite b w) s = .next t ∧ (t.bay b).config = c ∧ (t.bay b).power = .ramp ∧
          (t.bay b).profile = s.classProfile b ∧ (t.bay b).pendingUp = false ∧
          (t.bay b).target = { x.target with
            pwrEn := true, lock := x.target.lock || c.lockBeforePower,
            indP := if c.autoInd then .slow else x.target.indP } ∧
          (t.bay b).stepGen = some (t.bay b).targetGen ∧ (t.bay b).slot = x.slot ∧
          ((t.bay b).target ≠ x.target → x.link = .bound → (s.engine (busOf b)).takes = true →
            ∃ e ∈ (t.engine (busOf b)).queue, e.kind = .outputWrite ∧ e.bay = b) ∧
          t.events = s.events ∧ s.SameElsewhere t b ∧ t.shell = s'.shell))

/-- Clearing MANAGED releases a bay from management, by its link state: a BOUND bay departs with cause RELEASED,
the others lose their link without a STATE record, and a hunt loses the bay. Its queued entries are removed, its
transaction in flight or held is ignored from then on, and its part of a sweep ends with its queued sweep read.
That the release comes before the other changes of the word is the model's choice (log entry 11). -/
def Obligations.ReleaseFromManagement : Prop :=
  ∀ (b : BayId) (w : Word) (s : State), s.takesWord (Reg.bay b .config).addr = true →
    (BayConfig.ofWord w).debounce ≠ 0 → (s.bay b).config.managed = true → (BayConfig.ofWord w).managed = false →
    (s.bay b).releaseRefused = false → (s.bay b).LinkOk →
    let n := busOf b
    let entriesGone (t : State) : Prop :=
      (∀ q ∈ (t.engine n).queue, q.bay ≠ b) ∧
      (t.engine n).bus = (if (s.engine n).bus.current.map (fun tx => tx.entry.bay) = some b
        then (s.engine n).bus.ignore else (s.engine n).bus) ∧
      (if (s.engine n).queue.any (fun q => q.bay = b && q.waiters.sweep) then s.SweepLeft t n b
        else (t.engine n).sweep = (s.engine n).sweep)
    ((s.bay b).link = .bound →
      ∃ t, exec (.bayConfigurationWrite b w) s = .next t ∧
        Bay.Departed { s.bay b with config := BayConfig.ofWord w } (t.bay b) .absent .released ∧
        t.events = (s.enqueueAll (.bay b) (departureDetails (s.bay b).slot .absent .released)).events ∧
        entriesGone t ∧ (∀ c : BayId, c ≠ b → t.bay c = s.bay c)) ∧
    ((s.bay b).link = .probing ∨ (s.bay b).link = .setup →
      ∃ t, exec (.bayConfigurationWrite b w) s = .next t ∧
        t.bay b = { s.bay b with config := BayConfig.ofWord w, link := .absent, chain := none } ∧
        (t.engine n).hunt = huntLeft ((s.engine n).hunt.map fun h => h.without b) ∧
        t.events = ((s.enqueue (.bay b) (.link .absent .released)).tellHunt n
          ((s.engine n).hunt.map fun h => h.without b)).events ∧
        entriesGone t ∧ (∀ c : BayId, c ≠ b → t.bay c = s.bay c)) ∧
    ((s.bay b).link = .lost →
      ∃ t, exec (.bayConfigurationWrite b w) s = .next t ∧
        t.bay b = { s.bay b with config := BayConfig.ofWord w, link := .absent } ∧
        t.events = (s.enqueue (.bay b) (.link .absent .released)).events ∧
        (∀ c : BayId, c ≠ b → t.bay c = s.bay c)) ∧
    ((s.bay b).link = .absent →
      ∃ t, exec (.bayConfigurationWrite b w) s = .next t ∧
        t.bay b = { s.bay b with config := BayConfig.ofWord w } ∧ t.events = s.events ∧
        (∀ c : BayId, c ≠ b → t.bay c = s.bay c))

/-- A transaction whose bay was released while it was in flight or held is ignored when it ends: whatever its
kind, its success, a NACK of any attempt and a recovery pass that succeeds end it there, with no bay record
changed and no record told, and the sweep loses its bay if it was its sweep read. A timeout counts nothing and
sends it to recovery, which is the model's reading (log entry 9). -/
def Obligations.IgnoredTransactions : Prop :=
  ∀ (n : BusId) (tx : Tx) (a p : Nat) (sp : Speed) (s : State), s.resetLow = false → tx.ignored = true →
    busOf tx.entry.bay = n →
    let ends (c : Instr) : Prop :=
      ∃ t, exec c s = .next t ∧ t.bays = s.bays ∧ t.events = s.events ∧ (t.engine n).bus = .idle ∧
        (tx.entry.waiters.sweep = true → s.SweepLeft t n tx.entry.bay) ∧
        (tx.entry.waiters.sweep = false → t = s.modifyEngine n fun g => { g with bus := .idle }) ∧
        s.SameOffBus t n ∧ t.shell = s.shell
    ((s.engine n).bus = .active tx a sp none →
      (tx.entry.kind = .outputWrite → ends (.outputWriteComplete n)) ∧
      (tx.entry.kind = .inputRead → ∀ i o d, ends (.inputReadComplete n i o d)) ∧
      (tx.entry.kind = .probe → ends (.probeAcknowledged n)) ∧
      (tx.entry.kind = .setup .identRead → ∀ v, ends (.identReadComplete n v)) ∧
      (tx.entry.kind = .setup .setupRead → ∀ o d k r, ends (.setupReadComplete n o d k r)) ∧
      (tx.entry.kind = .setup .forceSafe → ends (.forceSafeWriteComplete n)) ∧
      (tx.entry.kind = .setup .seedingRead → ∀ i o d, ends (.seedingReadComplete n i o d)) ∧
      ends (.attemptNack n) ∧
      exec (.attemptDataLineLow n) s = .next (s.modifyEngine n fun g =>
        { g with bus := .recovering tx a 0 g.config.speed none })) ∧
    ((s.engine n).bus = .recovering tx a p sp none → ends (.recoveryPassEnd n true))

/-- A profile word that would set RAMP_TIME or CLK_TO_RST to 0 is refused, and any other sets the fields it
carries; a class map word with an undefined entry is refused, and any other sets all eight entries. -/
def Obligations.ProfileAndClassMapWords : Prop :=
  (∀ (p : ProfileId) (w : Word) (s : State), s.takesWord (Reg.profileA p).addr = true →
    exec (.profileWrite p false w) s = .next
      (if fieldOf w 1 10 = 0 ∨ fieldOf w 16 10 = 0 then (s.afterWord (Reg.profileA p).addr).setConfigRefused
       else { s.afterWord (Reg.profileA p).addr with
              profiles := s.profiles.set p
                { s.profiles[p] with rampMode := if bitOf w 0 then .pgood else .fixed,
                                     rampTime := fieldOf w 1 10, clkToRst := fieldOf w 16 10 } })) ∧
  (∀ (p : ProfileId) (w : Word) (s : State), s.takesWord (Reg.profileB p).addr = true →
    exec (.profileWrite p true w) s = .next
      { s.afterWord (Reg.profileB p).addr with
        profiles := s.profiles.set p
          { s.profiles[p] with drainStep := fieldOf w 0 8, cooldown := fieldOf w 16 12 } }) ∧
  ∀ (w : Word) (s : State), s.takesWord Reg.classMap.addr = true →
    ((∃ c : Fin 8, 4 < (classField w c.val).toNat) →
      exec (.classMapWrite w) s = .next (s.afterWord Reg.classMap.addr).setConfigRefused) ∧
    ((∀ c : Fin 8, (classField w c.val).toNat ≤ 4) →
      ∃ m : Vector (Option ProfileId) 8,
        exec (.classMapWrite w) s = .next { s.afterWord Reg.classMap.addr with classMap := m } ∧
        ∀ c : Fin 8, classEntryCode m[c] = (classField w c.val).toNat)

/-- A bus configuration word with an undefined SPEED is refused; another sets the four fields, and a changed
POLL_INTERVAL restarts the poll timer. One that disables a bus that is not FAILED also ends its work: the bus is
IDLE with an empty queue and no sweep; its BOUND bays have departed to LOST, its SETUP and PROBING bays are LOST,
the others as before, with the BUS record first, then the records of each bay in ascending order, then the
HUNT_DONE of a hunt that ends. -/
def Obligations.BusConfigurationWord : Prop :=
  (∀ (n : BusId) (w : Word) (s : State), s.takesWord (Reg.busConfig n).addr = true →
    (BusConfig.ofWord w = none ↔ 2 ≤ (fieldOf w 4 2).toNat) ∧
    (BusConfig.ofWord w = none →
      exec (.busConfigurationWrite n w) s = .next (s.afterWord (Reg.busConfig n).addr).setConfigRefused) ∧
    (∀ c, BusConfig.ofWord w = some c →
      ¬ ((s.engine n).config.enable = true ∧ c.enable = false ∧ (s.engine n).bus ≠ .failed) →
      exec (.busConfigurationWrite n w) s = .next
        ((s.afterWord (Reg.busConfig n).addr).modifyEngine n fun e =>
          { e with config := c,
                   poll := if c.pollInterval = (s.engine n).config.pollInterval then e.poll
                           else if c.pollInterval = 0 then none else some (10 * c.pollInterval.toNat) }))) ∧
  ∀ (n : BusId) (w : Word) (c : BusConfig) (s : State), s.takesWord (Reg.busConfig n).addr = true →
    BusConfig.ofWord w = some c → (s.engine n).config.enable = true → c.enable = false →
    (s.engine n).bus ≠ .failed → s.LinksConsistent →
    ∃ t, exec (.busConfigurationWrite n w) s = .next t ∧
      (t.engine n).bus = .idle ∧ (t.engine n).queue = [] ∧ (t.engine n).sweep = none ∧
      (t.engine n).hunt = huntLeft (s.huntDown n) ∧ (t.engine n).config = c ∧ s.SameOffBus t n ∧
      t.events = (s.tellBusDown n false).events ∧
      ∀ b : BayId, busOf b = n →
        ((s.bay b).link = .bound → Bay.Departed (s.bay b) (t.bay b) .lost .restart) ∧
        ((s.bay b).link = .setup ∨ (s.bay b).link = .probing →
          (t.bay b).link = .lost ∧ (t.bay b).power = (s.bay b).power ∧ (s.bay b).SameOutputs (t.bay b)) ∧
        ((s.bay b).link = .lost ∨ (s.bay b).link = .absent → t.bay b = s.bay b)

/-- A routing entry word: refused for an undefined code or NONE with EXCL, refused for a conflict with an
exclusive claim, or taken. A line control word sets the three fields and acts on the pulse state by the first
applicable row of R166; the line is asserted in LEVEL mode while it has records, in PULSE mode in HIGH, and never
while disabled. That the asserted state is computed, not held, is the model's choice (log entry 15). -/
def Obligations.RouterWords : Prop :=
  (∀ (i : SourceId) (w : Word) (s : State), s.takesWord (Reg.routing i).addr = true →
    (Route.ofWord w = none ↔ 4 < (fieldOf w 0 3).toNat ∨ ((fieldOf w 0 3).toNat = 4 ∧ bitOf w 4 = true)) ∧
    (Route.ofWord w = none →
      exec (.routingEntryWrite i w) s = .next (s.afterWord (Reg.routing i).addr).setConfigRefused) ∧
    (∀ r, Route.ofWord w = some r →
      (∃ j : SourceId, j ≠ i ∧ r.line ≠ none ∧ (s.routing[j]).line = r.line ∧
        (r.excl = true ∨ (s.routing[j]).excl = true)) →
      exec (.routingEntryWrite i w) s = .next { s.afterWord (Reg.routing i).addr with routeConflict := true }) ∧
    (∀ r, Route.ofWord w = some r →
      ¬ (∃ j : SourceId, j ≠ i ∧ r.line ≠ none ∧ (s.routing[j]).line = r.line ∧
        (r.excl = true ∨ (s.routing[j]).excl = true)) →
      exec (.routingEntryWrite i w) s = .next
        { s.afterWord (Reg.routing i).addr with routing := s.routing.set i r })) ∧
  (∀ (k : LineId) (w : Word) (s : State), s.takesWord (Reg.lineControl k).addr = true →
    ∃ l : Line,
      exec (.lineControlWrite k w) s = .next
        { s.afterWord (Reg.lineControl k).addr with lines := s.lines.set k l } ∧
      l.enable = bitOf w 0 ∧ l.pulse = bitOf w 1 ∧ l.activeHigh = bitOf w 2 ∧
      (l.enable = false → l.phase = .quiet ∧ l.owed = false) ∧
      (l.enable = true → l.pulse = false → l.phase = .quiet ∧ l.owed = false) ∧
      (l.pulsing = true → (s.lines[k]).pulsing = true →
        l.phase = (s.lines[k]).phase ∧ l.owed = (s.lines[k]).owed) ∧
      (l.pulsing = true → (s.lines[k]).pulsing = false → l.owed = false ∧
        l.phase = if 0 < s.events.lineCount (some k) then .high else .quiet)) ∧
  ∀ (k : LineId) (s : State),
    ((s.lines[k]).enable = false → s.lineAsserted k = false) ∧
    ((s.lines[k]).enable = true → (s.lines[k]).pulse = false →
      s.lineAsserted k = decide (0 < s.events.lineCount (some k))) ∧
    ((s.lines[k]).enable = true → (s.lines[k]).pulse = true →
      s.lineAsserted k = decide ((s.lines[k]).phase = .high)) ∧
    s.notifyPin k = (if (s.lines[k]).activeHigh then s.lineAsserted k else !s.lineAsserted k)

/-! ## Event Queue and notification lines -/

/-- A take moves the oldest record that its window asks for into the window, or leaves it EMPTY; a window
number of 5 to 7 is refused. -/
def Obligations.Takes : Prop :=
  (∀ (k : LineId) (w : Word) (s : State), s.takesWord Reg.take.addr = true → (fieldOf w 0 3).toNat = k.val →
    ∃ t, exec (.takeLineWindow w) s = .next t ∧
      t.events = { s.events with
        records := s.events.records.eraseP (fun r => r.line = some k),
        windows := s.events.windows.set k.val (s.events.records.find? fun r => r.line = some k) } ∧
      (∀ j : LineId, t.lines[j] =
        if j = k ∧ 0 < t.events.lineCount (some k) then (s.lines[j]).cause else s.lines[j]) ∧
      { t with events := s.events, lines := s.lines } = s.afterWord Reg.take.addr) ∧
  (∀ (w : Word) (s : State), s.takesWord Reg.take.addr = true → (fieldOf w 0 3).toNat = 4 →
    ∃ t, exec (.takeAnyWindow w) s = .next t ∧
      t.events = { s.events with
        records := s.events.records.tail, windows := s.events.windows.set 4 s.events.records.head? } ∧
      (∀ j : LineId, t.lines[j] =
        if s.events.records.head?.map Record.line = some (some j) ∧ 0 < t.events.lineCount (some j)
        then (s.lines[j]).cause else s.lines[j]) ∧
      { t with events := s.events, lines := s.lines } = s.afterWord Reg.take.addr) ∧
  ∀ (w : Word) (s : State), s.takesWord Reg.take.addr = true → 4 < (fieldOf w 0 3).toNat →
    exec (.takeLineWindow w) s = .next (s.afterWord Reg.take.addr).setConfigRefused ∧
    exec (.takeAnyWindow w) s = .next (s.afterWord Reg.take.addr).setConfigRefused

/-- An enqueue that does not coalesce appends at the back while the queue holds fewer than 32 records: SEQ the
sequence counter's value, or the first value after it modulo 65536 that no queued record holds, the counter moving
on past it; LINE from the routing table, TIME, COUNT 1, MISSED; the line's count rises, and a PULSE line takes a
cause. -/
def Obligations.RecordAppended : Prop :=
  ∀ (src : Source) (d : Detail) (s : State),
    s.events.records.any (fun r => r.absorbs src d) = false → s.events.records.length < 32 →
    ∃ r : Record, (s.enqueue src d).events.records = s.events.records ++ [r] ∧
      (∀ q ∈ s.events.records, q.seq ≠ r.seq) ∧
      (∃ k : Nat, k < 32 ∧ r.seq = s.events.seqCounter + BitVec.ofNat 16 k ∧
        ∀ j : Nat, j < k → ∃ q ∈ s.events.records, q.seq = s.events.seqCounter + BitVec.ofNat 16 j) ∧
      (s.enqueue src d).events.seqCounter = r.seq + 1 ∧ r.source = src ∧ r.detail = d ∧
      r.line = (s.routing[src.index]).line ∧ r.time = s.millis ∧ r.count = 1 ∧
      r.missed = (if s.events.missed[src.index] = 0 then none else some s.events.missed[src.index]) ∧
      (s.enqueue src d).events.missed = s.events.missed.set src.index 0 ∧
      (∀ k, (s.enqueue src d).events.lineCount k = s.events.lineCount k + if r.line = k then 1 else 0) ∧
      (s.enqueue src d).events.overflow = s.events.overflow ∧
      (s.enqueue src d).events.windows = s.events.windows ∧
      ∀ k : LineId, (s.noticeAppends (s.enqueue src d)).lines[k] =
        if r.line = some k then (s.lines[k]).cause else s.lines[k]

/-- A PRESENCE, LATCH, BUTTON or AUX record that finds an untaken record of its source and kind coalesces
into it in place, whatever the queue's space; the Router is not told. -/
def Obligations.RecordCoalesced : Prop :=
  ∀ (src : Source) (d : Detail) (pre post : List Record) (r : Record) (s : State),
    s.events.records = pre ++ r :: post → d.kind.coalesces = true → r.source = src → r.detail.kind = d.kind →
    s.events.Wf →
    s.noticeAppends (s.enqueue src d) =
      { s with events := { s.events with
          records := pre ++ { r with detail := d, time := s.millis,
                                     count := if r.count = 255 then 255 else r.count + 1 } :: post } }

/-- An enqueue that neither coalesces nor finds space drops the record: the missed count of its source rises and
OVERFLOW is set, and nothing else happens. -/
def Obligations.RecordDropped : Prop :=
  ∀ (src : Source) (d : Detail) (s : State),
    s.events.records.any (fun r => r.absorbs src d) = false → s.events.records.length = 32 →
    s.noticeAppends (s.enqueue src d) =
      { s with events := { s.events with
          missed := s.events.missed.set src.index
            (if s.events.missed[src.index] = 255 then 255 else s.events.missed[src.index] + 1),
          overflow := true } }

/-- The end of a HIGH phase gives the owed gap or QUIET, the end of a GAP a pulse or QUIET. A command that is
no reset, line control word, take or phase end moves a line by the records it appends alone. That a phase end
acts whenever the line is in the phase is the model's choice (log entry 4), and that a line takes one cause exactly
when its count has risen by the end of the event is its reading of R165 (log entry 21). -/
def Obligations.PulsePhases : Prop :=
  (∀ (k : LineId) (s : State), s.resetLow = false →
    ((s.lines[k]).phase = .high →
      exec (.pulseHighEnd k) s = .next (s.modifyLine k fun l =>
        if l.owed then { l with phase := .gap, owed := false } else { l with phase := .quiet })) ∧
    ((s.lines[k]).phase = .gap →
      exec (.pulseGapEnd k) s = .next (s.modifyLine k fun l =>
        { l with owed := false,
                 phase := if l.enable = true ∧ l.pulse = true ∧ 0 < s.events.lineCount (some k) then .high
                          else .quiet }))) ∧
  ∀ (c : Instr) (s : State), movesLinesItself c = false →
    ∃ t, exec c s = .next t ∧ ∀ k : LineId, t.lines[k] =
      if s.events.lineCount (some k) < t.events.lineCount (some k) then (s.lines[k]).cause else s.lines[k]

/-! ## Global commands -/

/-- A HUNT that passes its checks completes DONE and starts a hunt of each named bus that reaches its MANAGED
bays in ABSENT or LOST; a hunt that reaches no bay ends at once, and HUNT_DONE is the only record, bus 0 first.
One that fails a check only answers in the global command status. -/
def Obligations.HuntCommand : Prop :=
  ∀ (m : BusMask) (tag : Byte) (s : State), s.takesWord Reg.globalCommand.addr = true →
    (m.bus0 = false → m.bus1 = false →
      exec (.hunt m tag) s = .next ((s.afterWord Reg.globalCommand.addr).answerGlobal 1 .badCommand tag)) ∧
    ((∃ n ∈ maskBuses m, (s.engine n).takes = false) →
      exec (.hunt m tag) s = .next ((s.afterWord Reg.globalCommand.addr).answerGlobal 1 .badState tag)) ∧
    ((∀ n ∈ maskBuses m, (s.engine n).takes = true) → (∃ n ∈ maskBuses m, (s.engine n).hunt ≠ none) →
      exec (.hunt m tag) s = .next ((s.afterWord Reg.globalCommand.addr).answerGlobal 1 .busy tag)) ∧
    ((m.bus0 = true ∨ m.bus1 = true) → (∀ n ∈ maskBuses m, (s.engine n).takes = true ∧ (s.engine n).hunt = none) →
      ∃ t, exec (.hunt m tag) s = .next t ∧
        t.globalStatus = { code := 1, result := .done, tag := tag } ∧
        (∀ b : BayId, t.bay b =
          if busOf b ∈ maskBuses m ∧ (s.bay b).config.managed = true ∧
              ((s.bay b).link = .absent ∨ (s.bay b).link = .lost)
          then { s.bay b with link := .probing } else s.bay b) ∧
        (∀ n : BusId, n ∉ maskBuses m → t.engine n = s.engine n) ∧
        t.events = ((maskBuses m).foldl (fun u n => if (s.reachable n).isEmpty
          then u.enqueue .part (.huntDone n 0 0) else u) s).events ∧
        ∀ n ∈ maskBuses m,
          (t.engine n).queue = (s.engine n).queue ++ (s.reachable n).map probeEntry ∧
          (t.engine n).hunt =
            if (s.reachable n).isEmpty then none
            else some { hunted := (s.reachable n).map fun b =>
                          (b, if (s.bay b).link = .lost then Origin.lost else Origin.absent),
                        found := 0, bound := 0 })

/-- A BUS_RESTART naming one enabled bus completes DONE: the bus becomes IDLE, its bays leave PROBING, SETUP
and BOUND, with the BUS record, the records of each bay and the HUNT_DONE of a hunt that ends, in this order, and
a new hunt reaches every MANAGED bay; otherwise it answers BAD_COMMAND or BAD_STATE alone. -/
def Obligations.BusRestartCommand : Prop :=
  ∀ (m : BusMask) (tag : Byte) (s : State), s.takesWord Reg.globalCommand.addr = true →
    ((∀ n, maskBuses m ≠ [n]) →
      exec (.busRestart m tag) s = .next ((s.afterWord Reg.globalCommand.addr).answerGlobal 2 .badCommand tag)) ∧
    (∀ n, maskBuses m = [n] → (s.engine n).config.enable = false →
      exec (.busRestart m tag) s = .next ((s.afterWord Reg.globalCommand.addr).answerGlobal 2 .badState tag)) ∧
    (∀ n, maskBuses m = [n] → (s.engine n).config.enable = true → s.LinksConsistent →
      let managed := (baysOf n).filter fun b => (s.bay b).config.managed
      ∃ t, exec (.busRestart m tag) s = .next t ∧
        t.globalStatus = { code := 2, result := .done, tag := tag } ∧ (t.engine n).bus = .idle ∧
        (t.engine n).sweep = none ∧ (t.engine n).queue = managed.map probeEntry ∧
        (t.engine n).hunt = (if managed.isEmpty then none
          else some { hunted := managed.map fun b =>
                        (b, if (s.bay b).link = .absent then Origin.absent else Origin.lost),
                      found := 0, bound := 0 }) ∧
        t.events = (if managed.isEmpty then (s.tellBusDown n false).enqueue .part (.huntDone n 0 0)
          else s.tellBusDown n false).events ∧
        s.SameOffBus t n ∧
        ∀ b : BayId, busOf b = n →
          (t.bay b).link = (if (s.bay b).config.managed then .probing
            else if (s.bay b).link = .absent then .absent else .lost) ∧
          (t.bay b).power = .unknown ∧ (s.bay b).SameOutputs (t.bay b) ∧
          ((s.bay b).slot.inProgress = true →
            (t.bay b).slot.inProgress = false ∧ (t.bay b).slot.lastResult = .lost))

/-! ## Bay commands -/

/-- A bay command that fails a check of R51, in its order, is refused with the result of R51 to R56: it changes
the last result and the result tag of the bay's slot and nothing else: no record, no request, no other field. A
global command word with an undefined code puts the code, BAD_COMMAND and the tag in the global command status, and
changes nothing else. -/
def Obligations.CommandsRefused : Prop :=
  (∀ (c : BayCommand) (b : BayId) (tag : Byte) (args : CommandArgs) (s : State),
    s.takesWord (Reg.bay b .command).addr = true →
    let x := s.bay b
    let refused (r : CommandResult) : Prop :=
      exec (bayCommandOf c b tag args) s = .next
        ((s.afterWord (Reg.bay b .command).addr).modifyBay b fun y =>
          { y with slot := { y.slot with lastResult := r, resultTag := tag } })
    (c.argsWellFormed args = false → refused .badCommand) ∧
    (c.argsWellFormed args = true → x.link ≠ .bound → refused .notBound) ∧
    (c.argsWellFormed args = true → x.link = .bound → x.slot.inProgress = true →
      ¬ (c = .powerOff ∧ x.slot.code = some .powerOn) → refused .busy) ∧
    (c.argsWellFormed args = true → x.link = .bound → x.slot.inProgress = false →
      (c = .powerOn → x.power ≠ .off → x.power ≠ .cool → x.power ≠ .drain → refused .badState) ∧
      (c = .powerOn → x.power = .off ∨ x.power = .cool ∨ x.power = .drain →
        (x.accepted.present = false → refused .noModule) ∧
        (x.accepted.present = true → x.accepted.latchClosed = false → x.config.latchOff = true →
          refused .latchOpen) ∧
        (x.accepted.present = true → x.accepted.latchClosed = true ∨ x.config.latchOff = false →
          s.classProfile b = none → refused .classDenied)) ∧
      (c = .unlock → x.power ≠ .off → x.power ≠ .cool → x.power ≠ .faulted → refused .badState) ∧
      (c = .clearFault → x.power ≠ .faulted ∨ x.live.fault = true → refused .badState))) ∧
  (∀ (b : BayId) (code : BitVec 4) (tag : Byte) (args : CommandArgs) (s : State),
    s.takesWord (Reg.bay b .command).addr = true → (code = 0 ∨ 8 < code.toNat) →
    exec (.undefinedBayCommand b code tag args) s = .next
      ((s.afterWord (Reg.bay b .command).addr).modifyBay b fun x =>
        { x with slot := { x.slot with lastResult := .badCommand, resultTag := tag } })) ∧
  ∀ (code : BitVec 4) (m : BusMask) (tag : Byte) (s : State),
    s.takesWord Reg.globalCommand.addr = true → code ≠ 1 → code ≠ 2 →
    exec (.undefinedGlobalCommand code m tag) s = .next
      { s.afterWord Reg.globalCommand.addr with
        globalStatus := { code := code, result := .badCommand, tag := tag } }

/-- A POWER_ON that passes its checks begins a power-up from OFF, and is held in COOL and DRAIN. -/
def Obligations.PowerOnAccepted : Prop :=
  ∀ (b : BayId) (tag : Byte) (s : State), s.takesWord (Reg.bay b .command).addr = true →
    let x := s.bay b
    x.link = .bound → x.slot.inProgress = false → x.accepted.present = true →
    x.accepted.latchClosed = true ∨ x.config.latchOff = false → s.classProfile b ≠ none →
    (x.power = .off →
      ∃ t, exec (.powerOn b tag noArgs) s = .next t ∧
        (t.bay b).power = .ramp ∧ (t.bay b).profile = s.classProfile b ∧ (t.bay b).pendingUp = false ∧
        (t.bay b).target = { x.target with
          pwrEn := true, lock := x.target.lock || x.config.lockBeforePower,
          indP := if x.config.autoInd then .slow else x.target.indP } ∧
        (t.bay b).stepGen = some (t.bay b).targetGen ∧ (t.bay b).slot = Slot.holding .powerOn tag none ∧
        ((t.bay b).target ≠ x.target → (s.engine (busOf b)).takes = true →
          (t.bay b).targetGen = x.targetGen + 1 ∧
          ∃ e ∈ (t.engine (busOf b)).queue, e.kind = .outputWrite ∧ e.bay = b) ∧
        t.events = s.events ∧ s.SameElsewhere t b ∧
        t.shell = (s.afterWord (Reg.bay b .command).addr).shell) ∧
    (x.power = .cool ∨ x.power = .drain →
      exec (.powerOn b tag noArgs) s = .next
        ((s.afterWord (Reg.bay b .command).addr).modifyBay b fun y =>
          { y with pendingUp := true, slot := Slot.holding .powerOn tag none }))

/-- A POWER_OFF: done at once in OFF and COOL, joining a drain, withdrawing a held power-up, waiting for
all-off in FAULTED, and entering DRAIN from RAMP, CLOCK and ON, a POWER_ON in progress ending ABORTED; the
first drain step waits for a write that is under way, and a drain with nothing to do enters COOL. A bay without a
confirmed image counts as all off (the model's choice, log entry 19). -/
def Obligations.PowerOffAccepted : Prop :=
  ∀ (b : BayId) (tag : Byte) (s : State), s.takesWord (Reg.bay b .command).addr = true →
    let x := s.bay b
    let s' := s.afterWord (Reg.bay b .command).addr
    x.link = .bound →
    (x.slot.inProgress = false → x.power = .off ∨ x.power = .cool →
      ∃ t, exec (.powerOff b tag noArgs) s = .next t ∧ t.bay b = { x with slot := Slot.ended .powerOff tag .done } ∧
        t.events = (s.enqueue (.bay b) (.command .powerOff tag .done)).events ∧
        t.engines = s.engines ∧ s.SameElsewhere t b ∧ t.shell = s'.shell) ∧
    (x.slot.inProgress = false → x.power = .drain →
      exec (.powerOff b tag noArgs) s = .next
        (s'.modifyBay b fun y => { y with slot := Slot.holding .powerOff tag none })) ∧
    (x.slot.runs .powerOn = true → x.power = .cool ∨ x.power = .drain →
      ∃ t, exec (.powerOff b tag noArgs) s = .next t ∧
        t.bay b = { x with pendingUp := false, slot := Slot.ended .powerOff tag .done } ∧
        t.events = (s.enqueueAll (.bay b)
          [.command .powerOn x.slot.tag .aborted, .command .powerOff tag .done]).events ∧
        t.engines = s.engines ∧ s.SameElsewhere t b ∧ t.shell = s'.shell) ∧
    (x.slot.inProgress = false → x.power = .faulted → ∀ g, x.stepGen = some g → x.reached g = false →
      exec (.powerOff b tag noArgs) s = .next
        (s'.modifyBay b fun y => { y with slot := Slot.holding .powerOff tag (some g) })) ∧
    (x.slot.inProgress = false ∨ x.slot.runs .powerOn = true → x.power = .ramp ∨ x.power = .clock ∨ x.power = .on →
      s.writeUnderWay b = true →
      ∃ t, exec (.powerOff b tag noArgs) s = .next t ∧
        t.bay b = { x with
          power := .drain, timer := none, step := none, stepGen := none,
          pendingUp := if x.slot.runs .powerOn then false else x.pendingUp, slot := Slot.holding .powerOff tag none } ∧
        t.events = (if x.slot.runs .powerOn = true
          then s.enqueue (.bay b) (.command .powerOn x.slot.tag .aborted) else s).events ∧
        t.engines = s.engines ∧ s.SameElsewhere t b ∧ t.shell = s'.shell) ∧
    (x.slot.inProgress = false → x.power = .faulted → ∀ g, x.stepGen = some g → x.reached g = true →
      ∃ t, exec (.powerOff b tag noArgs) s = .next t ∧ t.bay b = { x with slot := Slot.ended .powerOff tag .done } ∧
        t.events = (s.enqueue (.bay b) (.command .powerOff tag .done)).events ∧
        t.engines = s.engines ∧ s.SameElsewhere t b ∧ t.shell = s'.shell) ∧
    (x.slot.inProgress = false ∨ x.slot.runs .powerOn = true → x.power = .ramp ∨ x.power = .clock ∨ x.power = .on →
      s.writeUnderWay b = false → ∀ st, drainCase x.confirmedImage = some st →
      x.reached (if drainUpdate x.config x.confirmedImage st x.target = x.target then x.targetGen
        else x.targetGen + 1) = false →
      ∃ t, exec (.powerOff b tag noArgs) s = .next t ∧ (t.bay b).power = .drain ∧ (t.bay b).step = some st ∧
        (t.bay b).timer = none ∧ (t.bay b).stepGen = some (t.bay b).targetGen ∧
        (t.bay b).target.pwrEn = (x.confirmedImage.pwrEn && decide (st ≠ .p)) ∧
        (t.bay b).target.clkEn = (x.confirmedImage.clkEn && decide (st ≠ .c)) ∧
        (t.bay b).target.released = (x.confirmedImage.released && decide (st ≠ .r)) ∧
        (t.bay b).slot = Slot.holding .powerOff tag none ∧
        t.events = (if x.slot.runs .powerOn = true
          then s.enqueue (.bay b) (.command .powerOn x.slot.tag .aborted) else s).events ∧
        s.SameElsewhere t b ∧ t.shell = s'.shell) ∧
    (x.slot.inProgress = false ∨ x.slot.runs .powerOn = true → x.power = .ramp ∨ x.power = .clock ∨ x.power = .on →
      s.writeUnderWay b = false → drainCase x.confirmedImage = none →
      ∃ t, exec (.powerOff b tag noArgs) s = .next t ∧
        ((s.modifyBay b fun y =>
            { y with slot := Slot.holding .powerOff tag none,
                     pendingUp := if x.slot.runs .powerOn then false else y.pendingUp }).enqueueAll (.bay b)
          (if x.slot.runs .powerOn then [.command .powerOn x.slot.tag .aborted] else [])).CoolEntered t b none ∧
        s.SameElsewhere t b ∧ t.shell = s'.shell)

/-- SET_IND, LOCK, UNLOCK and SET_AUX make one update of the target and await its generation; one that is
reached already completes the command at once. REFRESH requests a read that joins the bay's queued read or stands
at the back of the queue, and waits on it. -/
def Obligations.OutputAndRefreshAccepted : Prop :=
  (∀ (b : BayId) (tag : Byte) (args : CommandArgs) (s : State),
    s.takesWord (Reg.bay b .command).addr = true →
    let x := s.bay b
    x.link = .bound → x.slot.inProgress = false →
    let answers (c : BayCommand) (a : CommandArgs) (target : Image) : Prop :=
      ∃ t, exec (bayCommandOf c b tag a) s = .next t ∧
        t.bay b = { x with
          target := target, targetGen := if target = x.target then x.targetGen else x.targetGen + 1,
          slot := if x.reached (if target = x.target then x.targetGen else x.targetGen + 1)
            then Slot.ended c tag .done
            else Slot.holding c tag (some (if target = x.target then x.targetGen else x.targetGen + 1)) } ∧
        (t.engine (busOf b)).queue = (if target ≠ x.target ∧ (s.engine (busOf b)).takes = true
          then queueWrite (s.engine (busOf b)).queue b false else (s.engine (busOf b)).queue) ∧
        t.events = (if x.reached (if target = x.target then x.targetGen else x.targetGen + 1)
          then (s.enqueue (.bay b) (.command c tag .done)).events else s.events) ∧
        s.SameElsewhere t b ∧ t.shell = (s.afterWord (Reg.bay b .command).addr).shell
    (args.aux0 = false → args.aux1 = false →
      answers .setInd args { x.target with
        indA := IndMode.ofBits args.indA,
        indP := if x.config.autoInd then x.target.indP else IndMode.ofBits args.indP }) ∧
    answers .lock noArgs { x.target with lock := true } ∧
    (x.power = .off ∨ x.power = .cool ∨ x.power = .faulted →
      answers .unlock noArgs { x.target with lock := false }) ∧
    (args.indP = 0 → args.indA = 0 →
      answers .setAux args { x.target with
        aux0 := if x.auxDirs.aux0 then args.aux0 else x.target.aux0,
        aux1 := if x.auxDirs.aux1 then args.aux1 else x.target.aux1 })) ∧
  ∀ (b : BayId) (tag : Byte) (s : State), s.takesWord (Reg.bay b .command).addr = true →
    (s.bay b).link = .bound → (s.bay b).slot.inProgress = false → (s.engine (busOf b)).takes = true →
    ∃ t, exec (.refresh b tag noArgs) s = .next t ∧
      t.bay b = { s.bay b with slot := Slot.holding .refresh tag none } ∧
      (t.engine (busOf b)).queue =
        (if (s.engine (busOf b)).queue.any (fun e => e.isRead b) then
          (s.engine (busOf b)).queue.map fun e =>
            if e.isRead b then { e with waiters := { e.waiters with refresh := true } } else e
         else (s.engine (busOf b)).queue ++
          [{ kind := .inputRead, bay := b, urgent := false,
             waiters := { refresh := true, debounce := false, sweep := false }, carried := none }]) ∧
      (t.engine (busOf b)).bus = (s.engine (busOf b)).bus ∧ t.events = s.events ∧ s.SameElsewhere t b ∧
      t.shell = (s.afterWord (Reg.bay b .command).addr).shell

/-- CLEAR_FAULT awaits the fault's step generation; once that is reached the fault status is cleared and the
bay enters COOL, with the COMMAND record before the STATE record. -/
def Obligations.ClearFaultAccepted : Prop :=
  ∀ (b : BayId) (tag : Byte) (g : Half) (s : State), s.takesWord (Reg.bay b .command).addr = true →
    let x := s.bay b
    x.link = .bound → x.slot.inProgress = false → x.power = .faulted → x.live.fault = false →
    x.stepGen = some g →
    (x.reached g = false →
      exec (.clearFault b tag noArgs) s = .next
        ((s.afterWord (Reg.bay b .command).addr).modifyBay b fun y =>
          { y with slot := Slot.holding .clearFault tag (some g) })) ∧
    (x.reached g = true →
      ∃ t, exec (.clearFault b tag noArgs) s = .next t ∧
        (t.bay b).faultKind = .noFault ∧ (t.bay b).faultCount = 0 ∧
        ((s.modifyBay b fun y => { y with slot := Slot.ended .clearFault tag .done }).enqueue (.bay b)
          (.command .clearFault tag .done)).CoolEntered t b (some .command) ∧
        ((t.bay b).power ≠ .ramp → (t.bay b).target =
          (if x.config.autoInd then { x.target with indP := .off } else x.target)) ∧
        s.SameElsewhere t b ∧ t.shell = (s.afterWord (Reg.bay b .command).addr).shell)

/-! ## Expiries of the sequence timer -/

/-- The end of a FIXED ramp makes the clock update and enters CLOCK; the end of CLK_TO_RST makes the release
update. A ramp timeout takes a RAMP_TIMEOUT fault: all power outputs off in the target with an urgent write, the
fault status, a POWER_ON in progress ended FAULT, and the FAULT and STATE records. -/
def Obligations.RampAndClockExpiries : Prop :=
  ∀ (b : BayId) (s : State), s.resetLow = false →
    let x := s.bay b
    (x.timer = some { purpose := .rampWait, left := 0 } → x.power = .ramp → x.target.clkEn = false →
      x.reached (x.targetGen + 1) = false →
      ∃ t, exec (.rampTimeExpiry b) s = .next t ∧
        t.bay b = { x with power := .clock, timer := none, target := { x.target with clkEn := true },
                           targetGen := x.targetGen + 1, stepGen := some (x.targetGen + 1) } ∧
        t.events = s.events ∧ s.SameElsewhere t b ∧ t.shell = s.shell ∧ t.lines = s.lines) ∧
    (x.timer = some { purpose := .clkToRst, left := 0 } → x.power = .clock → x.target.released = false →
      x.reached (x.targetGen + 1) = false →
      ∃ t, exec (.clkToRstExpiry b) s = .next t ∧
        t.bay b = { x with
          timer := none, targetGen := x.targetGen + 1, stepGen := some (x.targetGen + 1),
          target := { x.target with released := true, indP := if x.config.autoInd then .on else x.target.indP } } ∧
        t.events = s.events ∧ s.SameElsewhere t b ∧ t.shell = s.shell ∧ t.lines = s.lines) ∧
    (x.timer = some { purpose := .rampTimeout, left := 0 } → x.power = .ramp → x.target.pwrEn = true →
      ∃ t, exec (.rampTimeout b) s = .next t ∧
        (t.bay b).power = .faulted ∧ (t.bay b).timer = none ∧ (t.bay b).step = none ∧
        (t.bay b).pendingUp = false ∧
        (t.bay b).target = { x.target with
          pwrEn := false, clkEn := false, released := false,
          indP := if x.config.autoInd then .fast else x.target.indP } ∧
        (t.bay b).targetGen = x.targetGen + 1 ∧ (t.bay b).stepGen = some (x.targetGen + 1) ∧
        (t.bay b).confirmed = x.confirmed ∧ (t.bay b).profile = x.profile ∧
        (x.faultKind = .noFault → (t.bay b).faultKind = .rampTimeout) ∧
        (t.bay b).faultCount = (if x.faultCount = 255 then 255 else x.faultCount + 1) ∧
        (x.link = .bound → (s.engine (busOf b)).takes = true →
          ∃ e ∈ (t.engine (busOf b)).queue, e.kind = .outputWrite ∧ e.bay = b ∧ e.urgent = true) ∧
        (x.slot.runs .powerOn = true → (t.bay b).slot = Slot.ended .powerOn x.slot.tag .fault ∧
          t.events = (s.enqueueAll (.bay b)
            [.command .powerOn x.slot.tag .fault, .fault .rampTimeout, .state .faulted .fault]).events) ∧
        (x.slot.inProgress = false → (t.bay b).slot = x.slot ∧
          t.events = (s.enqueueAll (.bay b) [.fault .rampTimeout, .state .faulted .fault]).events) ∧
        s.SameElsewhere t b ∧ t.shell = s.shell)

/-- The expiry of DRAIN_STEP computes the next step from the confirmed image: the first power output still
on is switched off, the others keeping their confirmed values; with none on, the drain is complete and the
bay enters COOL. -/
def Obligations.DrainStepExpiry : Prop :=
  ∀ (b : BayId) (w : Written) (s : State), s.resetLow = false →
    let x := s.bay b
    x.timer = some { purpose := .drainStep, left := 0 } → x.power = .drain → x.confirmed = some w →
    (∀ st, drainCase w.image = some st →
      x.reached (if drainUpdate x.config w.image st x.target = x.target then x.targetGen else x.targetGen + 1)
        = false →
      ∃ t, exec (.drainStepExpiry b) s = .next t ∧ (t.bay b).power = .drain ∧ (t.bay b).step = some st ∧
        (t.bay b).timer = none ∧ (t.bay b).stepGen = some (t.bay b).targetGen ∧
        (t.bay b).target.pwrEn = (w.image.pwrEn && decide (st ≠ .p)) ∧
        (t.bay b).target.clkEn = (w.image.clkEn && decide (st ≠ .c)) ∧
        (t.bay b).target.released = (w.image.released && decide (st ≠ .r)) ∧
        (x.config.autoInd = true → (t.bay b).target.indP = if st = .p then .off else .slow) ∧
        t.events = s.events ∧ s.SameElsewhere t b ∧ t.shell = s.shell) ∧
    (drainCase w.image = none →
      ∃ t, exec (.drainStepExpiry b) s = .next t ∧ s.CoolEntered t b none ∧
        ((t.bay b).power ≠ .ramp → (t.bay b).target = { x.target with
          pwrEn := false, clkEn := false, released := false,
          indP := if x.config.autoInd then .off else x.target.indP }) ∧
        s.SameElsewhere t b ∧ t.shell = s.shell)

/-- The expiry of COOLDOWN enters OFF when no power-up is held, and starts the bay where the conditions of R30
hold; a held power-up that passes its checks begins, and one that does not ends ABORTED. -/
def Obligations.CooldownExpiry : Prop :=
  ∀ (b : BayId) (s : State), s.resetLow = false →
    let x := s.bay b
    x.timer = some { purpose := .cooldown, left := 0 } → x.power = .cool →
    (x.pendingUp = false → s.autoStartReady b = false →
      ∃ t, exec (.cooldownExpiry b) s = .next t ∧
        t.bay b = { x with power := .off, timer := none, profile := none } ∧
        t.events = (s.enqueue (.bay b) (.state .off .auto)).events ∧ t.engines = s.engines ∧
        s.SameElsewhere t b ∧ t.shell = s.shell) ∧
    (x.pendingUp = false → x.config.autoOn = true → x.accepted.present = true → x.accepted.latchClosed = true →
      s.classProfile b ≠ none →
      ∃ t, exec (.cooldownExpiry b) s = .next t ∧ (t.bay b).power = .ramp ∧
        (t.bay b).profile = s.classProfile b ∧
        (t.bay b).target = { x.target with
          pwrEn := true, lock := x.target.lock || x.config.lockBeforePower,
          indP := if x.config.autoInd then .slow else x.target.indP } ∧
        (t.bay b).stepGen = some (t.bay b).targetGen ∧ (t.bay b).slot = x.slot ∧
        t.events = (s.enqueue (.bay b) (.state .off .auto)).events ∧ s.SameElsewhere t b ∧ t.shell = s.shell) ∧
    (x.pendingUp = true → s.heldReady b = true →
      ∃ t, exec (.cooldownExpiry b) s = .next t ∧ (t.bay b).power = .ramp ∧ (t.bay b).pendingUp = false ∧
        (t.bay b).profile = s.classProfile b ∧ (t.bay b).target.pwrEn = true ∧ (t.bay b).slot = x.slot ∧
        t.events = s.events ∧ s.SameElsewhere t b ∧ t.shell = s.shell) ∧
    (x.pendingUp = true → s.heldReady b = false → x.slot.runs .powerOn = true →
      ∃ t, exec (.cooldownExpiry b) s = .next t ∧
        t.bay b = { x with power := .off, timer := none, profile := none, pendingUp := false,
                           slot := Slot.ended .powerOn x.slot.tag .aborted } ∧
        t.events = (s.enqueueAll (.bay b) [.command .powerOn x.slot.tag .aborted, .state .off .auto]).events ∧
        t.engines = s.engines ∧ s.SameElsewhere t b ∧ t.shell = s.shell)

/-! ## Input sensing -/

/-- The expiry of the debounce timer takes the candidate to CONFIRMING with its confirming read requested;
the expiry of the poll timer requests a read of every BOUND bay and restarts the timer. An assertion of XALERTn_N
starts a sweep when none is running, the bus takes requests and a bay of it is BOUND: the set of waiting bays is the
BOUND bays, each with a read queued. Otherwise, and at a deassertion, the level alone changes. -/
def Obligations.DebouncePollAndAlert : Prop :=
  (∀ (b : BayId) (v : View) (s : State), s.resetLow = false →
    (s.bay b).candidate = some { view := v, phase := .timing 0 } → (s.bay b).link = .bound →
    (s.engine (busOf b)).takes = true →
    ∃ t, exec (.debounceExpiry b) s = .next t ∧
      t.bay b = { s.bay b with candidate := some { view := v, phase := .confirming } } ∧
      (∃ e ∈ (t.engine (busOf b)).queue, e.kind = .inputRead ∧ e.bay = b ∧ e.waiters.debounce = true) ∧
      t.events = s.events ∧ s.SameElsewhere t b ∧ t.shell = s.shell) ∧
  (∀ (n : BusId) (s : State), s.resetLow = false → (s.engine n).poll = some 0 →
    ∃ t, exec (.pollTimerExpiry n) s = .next t ∧
      (t.engine n).poll = (if (s.engine n).config.pollInterval = 0 then none
        else some (10 * (s.engine n).config.pollInterval.toNat)) ∧
      (∀ b : BayId, busOf b = n → (s.bay b).link = .bound → (s.engine n).takes = true →
        ∃ e ∈ (t.engine n).queue, e.kind = .inputRead ∧ e.bay = b) ∧
      ((∀ b : BayId, busOf b = n → (s.bay b).link ≠ .bound) → (t.engine n).queue = (s.engine n).queue) ∧
      t.bays = s.bays ∧ t.events = s.events ∧ s.SameOffBus t n ∧ t.shell = s.shell) ∧
  ∀ (n : BusId) (s : State), s.resetLow = false →
    exec (.xalertDeasserted n) s = .next { s with alerts := s.alerts.set n false } ∧
    (s.alerts[n] = false → (s.engine n).sweep = none → (s.engine n).takes = true →
      (∃ b : BayId, busOf b = n ∧ (s.bay b).link = .bound) →
      ∃ t, exec (.xalertAsserted n) s = .next t ∧
        (t.engine n).sweep = some ((baysOf n).filter fun b => (s.bay b).link = .bound) ∧
        (∀ b : BayId, busOf b = n → (s.bay b).link = .bound →
          ∃ e ∈ (t.engine n).queue, e.kind = .inputRead ∧ e.bay = b ∧ e.waiters.sweep = true) ∧
        t.alerts = s.alerts.set n true ∧ t.bays = s.bays ∧ t.events = s.events ∧ s.SameOffBus t n) ∧
    (s.alerts[n] = false → ((s.engine n).sweep ≠ none ∨ (s.engine n).takes = false ∨
        ∀ b : BayId, busOf b = n → (s.bay b).link ≠ .bound) →
      exec (.xalertAsserted n) s = .next { s with alerts := s.alerts.set n true })

/-! ## Bus engines -/

/-- A begin on an IDLE enabled bus puts the oldest urgent write in flight, or else the oldest entry, with
attempt number 1; a write takes the bay's target, generation and directions. -/
def Obligations.BeginChoosesEntry : Prop :=
  ∀ (n : BusId) (pre post : List Entry) (e : Entry) (s : State), s.resetLow = false →
    (s.engine n).bus = .idle → (s.engine n).config.enable = true → (s.engine n).queue = pre ++ e :: post →
    ((e.kind = .outputWrite ∧ e.urgent = true ∧
        ∀ q ∈ pre, ¬ (q.kind = .outputWrite ∧ q.urgent = true)) ∨
      (pre = [] ∧ ∀ q ∈ (s.engine n).queue, ¬ (q.kind = .outputWrite ∧ q.urgent = true))) →
    exec (.beginTransaction n) s = .next (s.modifyEngine n fun g =>
      { g with
        queue := pre ++ post,
        bus := .active
          { entry := if e.kind = .outputWrite then
              { e with carried := some { image := (s.bay e.bay).target, dirs := (s.bay e.bay).auxDirs,
                                         gen := (s.bay e.bay).targetGen } }
            else e,
            ignored := false } 1 g.config.speed none })

/-- A completed OUTPUT_WRITE makes what it carried the confirmed image. When nothing waits for the generation
it confirms, nothing else changes. When it reaches the awaited generation of a command other than CLEAR_FAULT, that
command completes DONE in every power state, its COMMAND record before the Sequencer's; a CLEAR_FAULT completes with
the fault status cleared and the bay in COOL. -/
def Obligations.WriteCompletes : Prop :=
  ∀ (n : BusId) (e : Entry) (a : Nat) (c : Written) (s : State), s.OnWire n e a → e.kind = .outputWrite →
    e.carried = some c → busOf e.bay = n →
    let x := s.bay e.bay
    let unreached (o : Option Half) : Prop := ∀ g, o = some g → 32768 ≤ (c.gen - g).toNat
    let waits : Prop := x.timer ≠ none ∨ unreached x.stepGen
    ((∃ t, exec (.outputWriteComplete n) s = .next t ∧ (t.bay e.bay).confirmed = some c ∧
      (t.engine n).bus = .idle ∧ s.SameElsewhere t e.bay ∧ t.shell = s.shell)) ∧
    (unreached x.slot.awaited → (x.power = .ramp ∨ x.power = .clock → waits) →
      (x.power = .drain → x.step ≠ none ∧ waits) →
      exec (.outputWriteComplete n) s = .next
        ((s.modifyBay e.bay fun y => { y with confirmed := some c }).modifyEngine n fun g =>
          { g with bus := .idle })) ∧
    (∀ k tag g, x.slot = Slot.holding k tag (some g) → k ≠ .clearFault → (c.gen - g).toNat < 32768 →
      ((x.power = .ramp ∨ x.power = .clock → waits) → (x.power = .drain → x.step ≠ none ∧ waits) →
        ∃ t, exec (.outputWriteComplete n) s = .next t ∧
          t.bay e.bay = { x with confirmed := some c, slot := Slot.ended k tag .done } ∧
          t.events = (s.enqueue (.bay e.bay) (.command k tag .done)).events) ∧
      ∃ t ds, exec (.outputWriteComplete n) s = .next t ∧ (t.bay e.bay).slot = Slot.ended k tag .done ∧
        t.events = (s.enqueueAll (.bay e.bay) (.command k tag .done :: ds)).events) ∧
    (∀ tag g, x.slot = Slot.holding .clearFault tag (some g) → x.power = .faulted → (c.gen - g).toNat < 32768 →
      ∃ t, exec (.outputWriteComplete n) s = .next t ∧
        (t.bay e.bay).faultKind = .noFault ∧ (t.bay e.bay).faultCount = 0 ∧
        ((s.modifyBay e.bay fun y => { y with slot := Slot.ended .clearFault tag .done }).enqueue (.bay e.bay)
          (.command .clearFault tag .done)).CoolEntered t e.bay (some .command))

/-- A completed OUTPUT_WRITE that reaches the step generation ends the Sequencer's wait: in RAMP it starts the
ramp timer of the profile's mode, with a read requested in PGOOD mode; in CLOCK it starts CLK_TO_RST, or once the
release update has been made it enters ON, with the POWER_ON in progress DONE before the STATE record. A command
whose awaited generation the write reaches has ended DONE before. -/
def Obligations.WriteEndsPowerUpWait : Prop :=
  ∀ (n : BusId) (e : Entry) (a : Nat) (c : Written) (g : Half) (s : State), s.OnWire n e a →
    e.kind = .outputWrite → e.carried = some c → busOf e.bay = n →
    let x := s.bay e.bay
    let p := s.profileOf e.bay
    let slot := x.slot.afterWrite c
    let answers (y : Bay) (ds : List Detail) (queue : List Entry) : Prop :=
      ∃ t, exec (.outputWriteComplete n) s = .next t ∧ t.bay e.bay = y ∧
        t.events = (s.enqueueAll (.bay e.bay) (x.slot.writeDetails c ++ ds)).events ∧
        t.engine n = { s.engine n with bus := .idle, queue := queue } ∧ s.SameElsewhere t e.bay ∧ t.shell = s.shell
    x.slot.awaited = none ∨ (∃ k tag h, k ≠ .clearFault ∧ x.slot = Slot.holding k tag (some h)) →
    x.timer = none → x.stepGen = some g → (c.gen - g).toNat < 32768 →
    (x.power = .ramp → p.rampMode = .fixed →
      answers { x with
        confirmed := some c, slot := slot, timer := some { purpose := .rampWait, left := p.rampTime.toNat } }
        [] (s.engine n).queue) ∧
    (x.power = .ramp → p.rampMode = .pgood →
      answers { x with
        confirmed := some c, slot := slot, timer := some { purpose := .rampTimeout, left := p.rampTime.toNat } }
        [] (if x.link = .bound ∧ (s.engine n).config.enable = true then queueRead (s.engine n).queue e.bay .none
            else (s.engine n).queue)) ∧
    (x.power = .clock → x.target.released = false →
      answers { x with
        confirmed := some c, slot := slot, timer := some { purpose := .clkToRst, left := p.clkToRst.toNat } }
        [] (s.engine n).queue) ∧
    (x.power = .clock → x.target.released = true →
      answers { x with
        confirmed := some c, power := .on, stepGen := none,
        slot := if slot.runs .powerOn then Slot.ended .powerOn x.slot.tag .done else slot }
        (if slot.runs .powerOn then [.command .powerOn x.slot.tag .done, .state .on .command]
          else [.state .on .auto]) (s.engine n).queue)

/-- A completed OUTPUT_WRITE moves a drain on. It lets a drain that waited for it compute its first step from the
image it confirmed. One that reaches the step generation starts DRAIN_STEP after a step R or C, or computes the
next step at once when DRAIN_STEP is 0, and enters COOL after step P. A drain with nothing left to do enters
COOL. A command whose awaited generation the write reaches has ended DONE before. -/
def Obligations.WriteMovesDrain : Prop :=
  ∀ (n : BusId) (e : Entry) (a : Nat) (c : Written) (s : State), s.OnWire n e a → e.kind = .outputWrite →
    e.carried = some c → busOf e.bay = n →
    let x := s.bay e.bay
    let delay := (s.profileOf e.bay).drainStep
    let reached : Prop := x.timer = none ∧ ∃ g, x.stepGen = some g ∧ (c.gen - g).toNat < 32768
    let told := (s.modifyBay e.bay fun y => { y with slot := x.slot.afterWrite c }).enqueueAll (.bay e.bay)
      (x.slot.writeDetails c)
    x.power = .drain →
    x.slot.awaited = none ∨ (∃ k tag h, k ≠ .clearFault ∧ x.slot = Slot.holding k tag (some h)) →
    (∀ st, x.step = some st → st ≠ .p → reached → delay ≠ 0 →
      ∃ t, exec (.outputWriteComplete n) s = .next t ∧
        t.bay e.bay = { x with
          confirmed := some c, slot := x.slot.afterWrite c,
          timer := some { purpose := .drainStep, left := delay.toNat } } ∧
        t.events = told.events ∧ t.engine n = { s.engine n with bus := .idle } ∧ s.SameElsewhere t e.bay ∧
        t.shell = s.shell) ∧
    (x.step = none ∨ ((x.step = some .r ∨ x.step = some .c) ∧ reached ∧ delay = 0) →
      (∀ st, drainCase c.image = some st →
        genReached (some c) (if drainUpdate x.config c.image st x.target = x.target then x.targetGen
          else x.targetGen + 1) = false →
        ∃ t, exec (.outputWriteComplete n) s = .next t ∧ (t.bay e.bay).power = .drain ∧
          (t.bay e.bay).step = some st ∧ (t.bay e.bay).timer = none ∧
          (t.bay e.bay).stepGen = some (t.bay e.bay).targetGen ∧
          (t.bay e.bay).target.pwrEn = (c.image.pwrEn && decide (st ≠ .p)) ∧
          (t.bay e.bay).target.clkEn = (c.image.clkEn && decide (st ≠ .c)) ∧
          (t.bay e.bay).target.released = (c.image.released && decide (st ≠ .r)) ∧
          (x.config.autoInd = true → (t.bay e.bay).target.indP = if st = .p then .off else .slow) ∧
          ((t.bay e.bay).target ≠ x.target → x.link = .bound → (s.engine n).config.enable = true →
            ∃ q ∈ (t.engine n).queue, q.kind = .outputWrite ∧ q.bay = e.bay) ∧
          (t.bay e.bay).slot = x.slot.afterWrite c ∧ t.events = told.events ∧ s.SameElsewhere t e.bay ∧ t.shell = s.shell) ∧
      (drainCase c.image = none →
        ∃ t, exec (.outputWriteComplete n) s = .next t ∧ told.CoolEntered t e.bay none ∧
          ((t.bay e.bay).power ≠ .ramp → (t.bay e.bay).target = { x.target with
            pwrEn := false, clkEn := false, released := false,
            indP := if x.config.autoInd then .off else x.target.indP }) ∧
          (t.bay e.bay).confirmed = some c ∧ s.SameElsewhere t e.bay ∧ t.shell = s.shell)) ∧
    (x.step = some .p → reached →
      ∃ t, exec (.outputWriteComplete n) s = .next t ∧ told.CoolEntered t e.bay none ∧
        ((t.bay e.bay).power ≠ .ramp → (t.bay e.bay).target =
          { x.target with indP := if x.config.autoInd then .off else x.target.indP }) ∧
        (t.bay e.bay).confirmed = some c ∧ s.SameElsewhere t e.bay ∧ t.shell = s.shell)

/-- A completed INPUT_READ of a BOUND bay replaces the sampled image and the live inputs, and completes the
REFRESH that waited on it. In every power state, with levels that the Sequencer does not act on and without a
mismatch, a candidate or a changed input, it does nothing else. A mismatch takes the bay to SETUP with its departure's records and queues IDENT_READ. -/
def Obligations.ReadCompletes : Prop :=
  ∀ (n : BusId) (e : Entry) (a : Nat) (input output direction : Half) (s : State), s.OnWire n e a →
    e.kind = .inputRead → busOf e.bay = n → (s.bay e.bay).link = .bound →
    let x := s.bay e.bay
    (∃ t, exec (.inputReadComplete n input output direction) s = .next t ∧
      (t.bay e.bay).sampled = some { levels := input, time := s.millis } ∧
      (t.bay e.bay).live = { fault := !input.getLsbD 11, pgood := input.getLsbD 12 } ∧
      s.SameElsewhere t e.bay ∧ t.shell = s.shell) ∧
    (s.mismatch e.bay output direction = false → x.power ≠ .unknown → input.getLsbD 11 = true →
      (x.power = .clock ∨ x.power = .on → input.getLsbD 12 = true) →
      (x.power = .ramp → input.getLsbD 12 = false ∨ ∀ k, x.timer ≠ some { purpose := .rampTimeout, left := k }) →
      x.candidate = none → (View.ofLevels input x.auxDirs).agrees x.accepted = true → e.waiters.sweep = false →
      ∃ t, exec (.inputReadComplete n input output direction) s = .next t ∧
        t.bay e.bay = { x with
          sampled := some { levels := input, time := s.millis },
          live := { fault := false, pgood := input.getLsbD 12 }, idleNote := false,
          slot := if e.waiters.refresh && x.slot.runs .refresh then Slot.ended .refresh x.slot.tag .done
            else x.slot } ∧
        t.events = (if e.waiters.refresh && x.slot.runs .refresh
          then (s.enqueue (.bay e.bay) (.command .refresh x.slot.tag .done)).events else s.events) ∧
        t.engine n = { s.engine n with bus := .idle }) ∧
    (∀ w, x.confirmed = some w → s.writeOutstanding e.bay = false →
      (output ≠ (w.image.encode w.dirs).output ∨ direction ≠ (w.image.encode w.dirs).direction) →
      x.power ≠ .unknown → (s.engine n).config.enable = true →
      ∃ t, exec (.inputReadComplete n input output direction) s = .next t ∧
        (t.bay e.bay).link = .setup ∧ (t.bay e.bay).power = .unknown ∧
        x.SameOutputs (t.bay e.bay) ∧
        (∀ q ∈ (t.engine n).queue, q.bay = e.bay → q.kind = .setup .identRead) ∧
        (∃ q ∈ (t.engine n).queue, q.bay = e.bay ∧ q.kind = .setup .identRead) ∧
        t.events = (s.enqueueAll (.bay e.bay) (departureDetails x.slot .setup .mismatch)).events)

/-- A read of a BOUND bay without a mismatch is judged by the power state: FAULT asserted in RAMP, CLOCK, ON or
DRAIN, or PGOOD deasserted in CLOCK or ON, takes a fault; in OFF and COOL FAULT is reported once; in FAULTED a
new assertion counts and a CLEAR_FAULT ends FAULT; PGOOD asserted ends a ramp that waits for it. -/
def Obligations.ReadJudgesLevels : Prop :=
  ∀ (n : BusId) (e : Entry) (a : Nat) (input output direction : Half) (s : State), s.OnWire n e a →
    e.kind = .inputRead → e.waiters = .none → busOf e.bay = n → (s.bay e.bay).link = .bound →
    s.mismatch e.bay output direction = false → (s.bay e.bay).candidate = none →
    let x := s.bay e.bay
    let faulted (kind : FaultKind) : Prop :=
      ∃ t, exec (.inputReadComplete n input output direction) s = .next t ∧ (t.bay e.bay).power = .faulted ∧
        (t.bay e.bay).target = { x.target with
          pwrEn := false, clkEn := false, released := false,
          indP := if x.config.autoInd then .fast else x.target.indP } ∧
        (t.bay e.bay).stepGen = some (t.bay e.bay).targetGen ∧ (t.bay e.bay).timer = none ∧
        (t.bay e.bay).step = none ∧ (t.bay e.bay).pendingUp = false ∧
        (t.bay e.bay).faultKind = (if x.faultKind = .noFault then kind else x.faultKind) ∧
        (t.bay e.bay).faultCount = (if x.faultCount = 255 then 255 else x.faultCount + 1) ∧
        ((t.bay e.bay).target ≠ x.target → (s.engine n).takes = true →
          ∃ q ∈ (t.engine n).queue, q.kind = .outputWrite ∧ q.bay = e.bay ∧ q.urgent = true) ∧
        (x.slot.inProgress = false →
          t.events = (s.enqueueAll (.bay e.bay) [.fault kind, .state .faulted .fault]).events) ∧
        (∀ c, (c = .powerOn ∨ c = .powerOff) → x.slot.runs c = true →
          (t.bay e.bay).slot = Slot.ended c x.slot.tag .fault ∧
          t.events = (s.enqueueAll (.bay e.bay)
            [.command c x.slot.tag .fault, .fault kind, .state .faulted .fault]).events) ∧
        s.SameElsewhere t e.bay ∧ t.shell = s.shell
    (x.power = .ramp ∨ x.power = .clock ∨ x.power = .on ∨ x.power = .drain → input.getLsbD 11 = false →
      faulted .fltInput) ∧
    (x.power = .clock ∨ x.power = .on → input.getLsbD 11 = true → input.getLsbD 12 = false →
      faulted .pgoodLost) ∧
    (x.power = .off ∨ x.power = .cool → input.getLsbD 11 = false →
      ∃ t, exec (.inputReadComplete n input output direction) s = .next t ∧ (t.bay e.bay).idleNote = true ∧
        (t.bay e.bay).power = x.power ∧ (t.bay e.bay).faultKind = x.faultKind ∧ x.SameOutputs (t.bay e.bay) ∧
        t.events = (if x.idleNote then s else s.enqueue (.bay e.bay) (.fault .fltInputIdle)).events) ∧
    (x.power = .faulted → input.getLsbD 11 = false →
      ∃ t, exec (.inputReadComplete n input output direction) s = .next t ∧ (t.bay e.bay).power = .faulted ∧
        (t.bay e.bay).faultKind = x.faultKind ∧
        (t.bay e.bay).faultCount =
          (if x.live.fault = true ∨ x.faultCount = 255 then x.faultCount else x.faultCount + 1) ∧
        x.SameOutputs (t.bay e.bay) ∧
        (x.slot.runs .clearFault = true → (t.bay e.bay).slot = Slot.ended .clearFault x.slot.tag .fault ∧
          t.events = (s.enqueue (.bay e.bay) (.command .clearFault x.slot.tag .fault)).events) ∧
        (x.slot.inProgress = false → (t.bay e.bay).slot = x.slot ∧ t.events = s.events)) ∧
    (x.power = .ramp → input.getLsbD 11 = true → input.getLsbD 12 = true →
      (∃ k, x.timer = some { purpose := .rampTimeout, left := k }) → x.target.clkEn = false →
      x.reached (x.targetGen + 1) = false →
      ∃ t, exec (.inputReadComplete n input output direction) s = .next t ∧ (t.bay e.bay).power = .clock ∧
        (t.bay e.bay).timer = none ∧ (t.bay e.bay).target = { x.target with clkEn := true } ∧
        (t.bay e.bay).stepGen = some (x.targetGen + 1) ∧ t.events = s.events)

/-- Reads move the debounce candidate of a resting bay as R78, R79 and R81 state, and the confirming read
accepts: the accepted image, its class, and the PRESENCE, LATCH, BUTTON and AUX records of the changes. -/
def Obligations.ReadDebounces : Prop :=
  ∀ (n : BusId) (e : Entry) (a : Nat) (input output direction : Half) (s : State), s.OnWire n e a →
    e.kind = .inputRead → busOf e.bay = n → (s.bay e.bay).link = .bound → e.waiters.refresh = false →
    e.waiters.sweep = false → s.mismatch e.bay output direction = false → (s.bay e.bay).power = .off →
    (s.bay e.bay).config.autoOn = false → input.getLsbD 11 = true →
    let x := s.bay e.bay
    let v := View.ofLevels input x.auxDirs
    let old := v.agrees x.accepted
    let read : Bay := { x with
      sampled := some { levels := input, time := s.millis },
      live := { fault := false, pgood := input.getLsbD 12 }, idleNote := false }
    let becomes (c : Option Candidate) : Prop :=
      ∃ t, exec (.inputReadComplete n input output direction) s = .next t ∧
        t.bay e.bay = { read with candidate := c } ∧ t.events = s.events ∧ s.SameElsewhere t e.bay ∧
        t.shell = s.shell
    let fresh : Option Candidate := some { view := v, phase := .timing x.config.debounce.toNat }
    (x.candidate = none → becomes (if old then none else fresh)) ∧
    (∀ c k, x.candidate = some c → c.phase = .timing k →
      becomes (if v = c.view then some c else if old then none else fresh)) ∧
    (∀ c, x.candidate = some c → c.phase = .confirming → v = c.view → e.waiters.debounce = false →
      becomes (some c)) ∧
    (∀ c, x.candidate = some c → c.phase = .confirming → v ≠ c.view → becomes (if old then none else fresh)) ∧
    (∀ c, x.candidate = some c → c.phase = .confirming → v = c.view → e.waiters.debounce = true →
      let acc := v.accept x.accepted input
      ∃ t, exec (.inputReadComplete n input output direction) s = .next t ∧
        t.bay e.bay = { read with candidate := none, accepted := acc } ∧
        acc.present = !input.getLsbD 8 ∧ acc.latchClosed = !input.getLsbD 9 ∧ acc.pressed = !input.getLsbD 10 ∧
        t.events = (s.enqueueAll (.bay e.bay)
          ((if acc.present ≠ x.accepted.present then [.presence acc.present acc.moduleClass] else []) ++
            (if acc.latchClosed ≠ x.accepted.latchClosed then [.latch acc.latchClosed] else []) ++
            (if acc.pressed = true ∧ x.accepted.pressed = false then [.button] else []) ++
            (if acc.aux0 ≠ x.accepted.aux0 ∨ acc.aux1 ≠ x.accepted.aux1 then [.aux acc.aux0 acc.aux1]
             else []))).events ∧
        s.SameElsewhere t e.bay ∧ t.shell = s.shell)

/-- What the confirming read accepts reaches the Sequencer: a removal with SURPRISE_OFF 1 and an opened latch
with LATCH_OFF 1 start a drain in RAMP, CLOCK and ON, after the records of the acceptance and with a POWER_ON in
progress ABORTED, and a drain with nothing to do enters COOL; a module present behind a closed latch starts an OFF
bay whose AUTO_ON is 1 and whose class has a profile. A bay without a confirmed image counts as all off (the
model's choice, log entry 19). -/
def Obligations.AcceptanceActs : Prop :=
  ∀ (n : BusId) (e : Entry) (a : Nat) (c : Candidate) (input output direction : Half) (s : State),
    s.OnWire n e a → e.kind = .inputRead → busOf e.bay = n → (s.bay e.bay).link = .bound →
    e.waiters = { refresh := false, debounce := true, sweep := false } →
    s.mismatch e.bay output direction = false → input.getLsbD 11 = true →
    let x := s.bay e.bay
    let v := View.ofLevels input x.auxDirs
    let acc := v.accept x.accepted input
    let slot := if x.slot.runs .powerOn then Slot.ended .powerOn x.slot.tag .aborted else x.slot
    let told := (s.modifyBay e.bay fun y => { y with accepted := acc, slot := slot }).enqueueAll (.bay e.bay)
      (acceptanceDetails x.accepted acc ++
        if x.slot.runs .powerOn then [.command .powerOn x.slot.tag .aborted] else [])
    x.candidate = some c → c.phase = .confirming → v = c.view →
    ((v.present = false ∧ x.accepted.present = true ∧ x.config.surpriseOff = true) ∨
        (v.latchClosed = false ∧ x.accepted.latchClosed = true ∧ x.config.latchOff = true) →
      (x.power = .ramp ∧ (input.getLsbD 12 = false ∨ ∀ k, x.timer ≠ some { purpose := .rampTimeout, left := k })) ∨
        ((x.power = .clock ∨ x.power = .on) ∧ input.getLsbD 12 = true) →
      (∀ st, drainCase x.confirmedImage = some st →
        x.reached (if drainUpdate x.config x.confirmedImage st x.target = x.target then x.targetGen
          else x.targetGen + 1) = false →
        ∃ t, exec (.inputReadComplete n input output direction) s = .next t ∧ (t.bay e.bay).power = .drain ∧
          (t.bay e.bay).step = some st ∧ (t.bay e.bay).timer = none ∧
          (t.bay e.bay).stepGen = some (t.bay e.bay).targetGen ∧ (t.bay e.bay).accepted = acc ∧
          (t.bay e.bay).slot = slot ∧ t.events = told.events ∧ s.SameElsewhere t e.bay ∧ t.shell = s.shell) ∧
      (drainCase x.confirmedImage = none →
        ∃ t, exec (.inputReadComplete n input output direction) s = .next t ∧ told.CoolEntered t e.bay none ∧
          (t.bay e.bay).accepted = acc ∧ s.SameElsewhere t e.bay ∧ t.shell = s.shell)) ∧
    (v.present = true → v.latchClosed = true →
      x.accepted.present = false ∨ x.accepted.latchClosed = false → x.power = .off → x.config.autoOn = true →
      ∀ m, acc.moduleClass = some m → s.classMap[m.toNat] ≠ none →
      ∃ t, exec (.inputReadComplete n input output direction) s = .next t ∧ (t.bay e.bay).power = .ramp ∧
        (t.bay e.bay).profile = s.classMap[m.toNat] ∧ (t.bay e.bay).target.pwrEn = true ∧
        (t.bay e.bay).slot = x.slot ∧ (t.bay e.bay).accepted = acc ∧
        t.events = (s.enqueueAll (.bay e.bay) (acceptanceDetails x.accepted acc)).events ∧
        s.SameElsewhere t e.bay ∧ t.shell = s.shell)

/-- A bay leaves the sweep of its bus in the event in which its sweep read ends: with a result, at exhaustion by a
NACK or after a recovery pass, or removed from the queue by the bay's departure. The last bay to leave ends the sweep, and the condition is evaluated
at once: while the alert stands and a bay is BOUND, a new sweep starts. The end of a read that is no sweep read
leaves the sweep alone. That RETRY_LIMIT is read at the end of a recovery pass is the model's choice (log entry
24). -/
def Obligations.SweepProgress : Prop :=
  (∀ (n : BusId) (e : Entry) (a : Nat) (input output direction : Half) (s : State), s.OnWire n e a →
    e.kind = .inputRead → busOf e.bay = n → (s.bay e.bay).link = .bound →
    let removed := s.mismatch e.bay output direction &&
      (s.engine n).queue.any fun q => q.bay = e.bay && q.waiters.sweep
    ∃ t, exec (.inputReadComplete n input output direction) s = .next t ∧
      (e.waiters.sweep = true ∨ removed = true → s.SweepLeft t n e.bay) ∧
      (e.waiters.sweep = false → removed = false → (t.engine n).sweep = (s.engine n).sweep)) ∧
  (∀ (n : BusId) (e : Entry) (a : Nat) (s : State), s.OnWire n e a → e.kind = .inputRead ∨ e.kind = .outputWrite →
    busOf e.bay = n → (s.engine n).config.retryLimit.toNat < a →
    let queued := (s.engine n).queue.any fun q => q.bay = e.bay && q.waiters.sweep
    ∃ t, exec (.attemptNack n) s = .next t ∧
      ((e.kind = .inputRead ∧ e.waiters.sweep = true) ∨ queued = true → s.SweepLeft t n e.bay) ∧
      (e.kind = .outputWrite ∨ e.waiters.sweep = false → queued = false →
        (t.engine n).sweep = (s.engine n).sweep)) ∧
  ∀ (n : BusId) (e : Entry) (a p : Nat) (sp : Speed) (s : State), s.resetLow = false →
    (s.engine n).bus = .recovering { entry := e, ignored := false } a p sp none →
    e.kind = .inputRead ∨ e.kind = .outputWrite → busOf e.bay = n → (s.engine n).config.retryLimit.toNat < a →
    let queued := (s.engine n).queue.any fun q => q.bay = e.bay && q.waiters.sweep
    ∃ t, exec (.recoveryPassEnd n true) s = .next t ∧
      ((e.kind = .inputRead ∧ e.waiters.sweep = true) ∨ queued = true → s.SweepLeft t n e.bay) ∧
      (e.kind = .outputWrite ∨ e.waiters.sweep = false → queued = false →
        (t.engine n).sweep = (s.engine n).sweep)

/-- An acknowledged probe raises the hunt's found count and takes the bay to SETUP with IDENT_READ requested;
an IDENT of 0x6B requests SETUP_READ, and another takes the bay to ABSENT with cause FOREIGN: a hunted bay leaves
the hunt, and the last one ends it with HUNT_DONE after the LINK record. -/
def Obligations.ProbeAndIdent : Prop :=
  (∀ (n : BusId) (e : Entry) (a : Nat) (s : State), s.OnWire n e a → e.kind = .probe → busOf e.bay = n →
    (s.engine n).config.enable = true →
    exec (.probeAcknowledged n) s = .next
      ((s.modifyBay e.bay fun x => { x with link := .setup }).modifyEngine n fun g =>
        { g with bus := .idle, hunt := g.hunt.map fun h => { h with found := h.found + 1 },
                 queue := g.queue ++ [{ kind := .setup .identRead, bay := e.bay, urgent := false,
                                        waiters := .none, carried := none }] })) ∧
  ∀ (n : BusId) (e : Entry) (a : Nat) (ident : Byte) (s : State), s.OnWire n e a →
    e.kind = .setup .identRead → busOf e.bay = n → (s.engine n).config.enable = true →
    (ident = 0x6B →
      exec (.identReadComplete n ident) s = .next (s.modifyEngine n fun g =>
        { g with bus := .idle,
                 queue := g.queue ++ [{ kind := .setup .setupRead, bay := e.bay, urgent := false,
                                        waiters := .none, carried := none }] })) ∧
    (ident ≠ 0x6B →
      ∃ t, exec (.identReadComplete n ident) s = .next t ∧
        t.bay e.bay = { s.bay e.bay with link := .absent, chain := none } ∧
        (t.engine n).hunt = huntLeft ((s.engine n).hunt.map fun h => h.without e.bay) ∧
        t.events = ((s.enqueue (.bay e.bay) (.link .absent .foreign)).tellHunt n
          ((s.engine n).hunt.map fun h => h.without e.bay)).events ∧
        (t.engine n).bus = .idle ∧ (t.engine n).queue = (s.engine n).queue ∧
        (t.engine n).sweep = (s.engine n).sweep ∧ s.SameElsewhere t e.bay ∧ t.shell = s.shell)

/-- A completed SETUP_READ adopts a consistent readback with its three power lines all on or all off, and
forces safe any other; a completed force-safe write confirms what it carried and requests the seeding read. -/
def Obligations.SetupReadAndForceSafe : Prop :=
  (∀ (n : BusId) (e : Entry) (a : Nat) (r : Regs) (s : State), s.OnWire n e a → e.kind = .setup .setupRead →
    busOf e.bay = n → (s.engine n).config.enable = true →
    let x := s.bay e.bay
    let g := x.targetGen + 1
    let d := x.config.auxDir
    let adoptable := r.consistent d = true ∧ r.output.getLsbD 1 = r.output.getLsbD 0 ∧
      r.output.getLsbD 2 = r.output.getLsbD 0
    (adoptable →
      ∃ t, exec (.setupReadComplete n r.output r.direction r.blink r.rate) s = .next t ∧
        t.bay e.bay = { x with
          target := r.decode, targetGen := g, confirmed := some { image := r.decode, dirs := d, gen := g },
          chain := some { dirs := d, decided := if r.output.getLsbD 0 then .on else .off } } ∧
        (t.engine n).queue = (s.engine n).queue ++
          [{ kind := .setup .seedingRead, bay := e.bay, urgent := false, waiters := .none, carried := none }] ∧
        (t.engine n).bus = .idle ∧ t.events = s.events ∧ s.SameElsewhere t e.bay ∧ t.shell = s.shell) ∧
    (¬ adoptable →
      let safe : Image := {
        pwrEn := false, clkEn := false, released := false, indP := .off, indA := .off,
        lock := r.direction.getLsbD 5 && r.output.getLsbD 5, aux0 := false, aux1 := false }
      ∃ t, exec (.setupReadComplete n r.output r.direction r.blink r.rate) s = .next t ∧
        t.bay e.bay = { x with
          target := safe, targetGen := g, confirmed := none,
          chain := some {
            dirs := d, decided := if r.direction.getLsbD 0 && r.output.getLsbD 0 then .cool else .off } } ∧
        (t.engine n).queue = (s.engine n).queue ++
          [{ kind := .setup .forceSafe, bay := e.bay, urgent := false, waiters := .none,
             carried := some { image := safe, dirs := d, gen := g } }] ∧
        (t.engine n).bus = .idle ∧ t.events = s.events ∧ s.SameElsewhere t e.bay ∧ t.shell = s.shell)) ∧
  ∀ (n : BusId) (e : Entry) (a : Nat) (s : State), s.OnWire n e a → e.kind = .setup .forceSafe →
    busOf e.bay = n → (s.engine n).config.enable = true →
    exec (.forceSafeWriteComplete n) s = .next
      ((s.modifyBay e.bay fun x => { x with confirmed := e.carried }).modifyEngine n fun g =>
        { g with bus := .idle,
                 queue := g.queue ++ [{ kind := .setup .seedingRead, bay := e.bay, urgent := false,
                                        waiters := .none, carried := none }] })

/-- A completed seeding read binds the bay: inputs seeded from the read, failure count cleared, the chain's
directions taken. A hunted bay leaves its hunt and raises the bound count, the last one ending it, and a sweep
starts where the alert stands and none is running. A bay bound OFF with nothing to correct or to start enqueues
LINK, STATE and the HUNT_DONE of a hunt that ends alone. -/
def Obligations.SeedingReadBinds : Prop :=
  ∀ (n : BusId) (e : Entry) (a : Nat) (ch : Chain) (input output direction : Half) (s : State),
    s.OnWire n e a → e.kind = .setup .seedingRead → busOf e.bay = n → (s.bay e.bay).chain = some ch →
    let x := s.bay e.bay
    let hunt : Option Hunt := (s.engine n).hunt.map fun h =>
      { h.without e.bay with bound := if s.hunted e.bay then h.bound + 1 else h.bound }
    (∃ t, exec (.seedingReadComplete n input output direction) s = .next t ∧
      (t.bay e.bay).link = .bound ∧ (t.bay e.bay).power ≠ .unknown ∧ (t.bay e.bay).failures = 0 ∧
      (t.bay e.bay).auxDirs = ch.dirs ∧ (t.bay e.bay).candidate = none ∧ (t.bay e.bay).chain = none ∧
      (t.bay e.bay).sampled = some { levels := input, time := s.millis } ∧
      (t.bay e.bay).live = { fault := !input.getLsbD 11, pgood := input.getLsbD 12 } ∧
      (t.bay e.bay).accepted.present = !input.getLsbD 8 ∧
      (t.bay e.bay).accepted.latchClosed = !input.getLsbD 9 ∧
      (t.bay e.bay).accepted.pressed = !input.getLsbD 10 ∧
      (t.bay e.bay).accepted.moduleClass = (if input.getLsbD 8 then none else some (input.extractLsb' 13 3)) ∧
      (t.engine n).bus = .idle ∧ (t.engine n).hunt = huntLeft hunt ∧
      (if (s.engine n).sweep = none ∧ s.alerts[n] = true ∧ (s.engine n).config.enable = true
        then t.SweepStarted n else (t.engine n).sweep = (s.engine n).sweep) ∧
      (∀ c : BayId, c ≠ e.bay → t.bay c = s.bay c) ∧ t.shell = s.shell) ∧
    (ch.decided = .off → input.getLsbD 11 = true → x.config.autoOn = false → x.target.indP = .off →
      ∃ t, exec (.seedingReadComplete n input output direction) s = .next t ∧
        (t.bay e.bay).power = .off ∧ (t.bay e.bay).faultKind = .noFault ∧ (t.bay e.bay).faultCount = 0 ∧
        x.SameOutputs (t.bay e.bay) ∧
        t.events = ((s.enqueueAll (.bay e.bay) [.link .bound .bound, .state .off .adopt]).tellHunt n hunt).events)

/-- What binding does by the decided power state, and the checks after it. ON: the indicator is corrected, then
FAULT asserted or PGOOD deasserted takes a fault, and a missing module with SURPRISE_OFF 1 starts a drain. COOL: the
entry into COOL. OFF: the indicator is corrected, and the bay is started where the conditions of R30 hold. FAULT
asserted in OFF or COOL sets the note and is reported. The records are those of binding, then those of the checks,
then the HUNT_DONE of a hunt that ends. A bay without a confirmed image counts as all off (the model's choice, log
entry 19). -/
def Obligations.BindingActs : Prop :=
  ∀ (n : BusId) (e : Entry) (a : Nat) (ch : Chain) (input output direction : Half) (s : State),
    s.OnWire n e a → e.kind = .setup .seedingRead → busOf e.bay = n → (s.bay e.bay).chain = some ch →
    let x := s.bay e.bay
    let hunt : Option Hunt := (s.engine n).hunt.map fun h =>
      { h.without e.bay with bound := if s.hunted e.bay then h.bound + 1 else h.bound }
    let corrected (m : IndMode) : Image := { x.target with indP := if x.config.autoInd then m else x.target.indP }
    let written (t : State) : Prop := (s.engine n).config.enable = true →
      ∃ q ∈ (t.engine n).queue, q.kind = .outputWrite ∧ q.bay = e.bay
    let binds (ds : List Detail) (P : State → Prop) : Prop :=
      ∃ t, exec (.seedingReadComplete n input output direction) s = .next t ∧
        t.events = ((s.enqueueAll (.bay e.bay) (.link .bound .bound :: ds)).tellHunt n hunt).events ∧ P t
    let seeded := (View.ofLevels input ch.dirs).seed x.accepted input
    (ch.decided = .on → input.getLsbD 11 = true → input.getLsbD 12 = true →
      input.getLsbD 8 = false ∨ x.config.surpriseOff = false →
      binds [.state .on .adopt] fun t =>
        (t.bay e.bay).power = .on ∧ (t.bay e.bay).target = corrected .on ∧ (t.bay e.bay).idleNote = false ∧
        (t.bay e.bay).faultKind = .noFault ∧ (t.bay e.bay).faultCount = 0 ∧
        ((t.bay e.bay).target ≠ x.target → written t)) ∧
    (ch.decided = .on → input.getLsbD 11 = false ∨ input.getLsbD 12 = false → x.slot.inProgress = false →
      let kind : FaultKind := if input.getLsbD 11 then .pgoodLost else .fltInput
      binds [.state .on .adopt, .fault kind, .state .faulted .fault] fun t =>
        (t.bay e.bay).power = .faulted ∧ (t.bay e.bay).faultKind = kind ∧ (t.bay e.bay).faultCount = 1 ∧
        (t.bay e.bay).target = { corrected .fast with pwrEn := false, clkEn := false, released := false } ∧
        (t.bay e.bay).stepGen = some (t.bay e.bay).targetGen ∧
        (x.target.pwrEn = true → (s.engine n).config.enable = true →
          ∃ q ∈ (t.engine n).queue, q.kind = .outputWrite ∧ q.bay = e.bay ∧ q.urgent = true)) ∧
    (ch.decided = .on → input.getLsbD 11 = true → input.getLsbD 12 = true → input.getLsbD 8 = true →
      x.config.surpriseOff = true → x.slot.inProgress = false → ∀ st, drainCase x.confirmedImage = some st →
      drainUpdate x.config x.confirmedImage st (corrected .on) ≠ corrected .on →
      x.reached (x.targetGen + 1) = false → x.reached (x.targetGen + 2) = false →
      binds [.state .on .adopt] fun t =>
        (t.bay e.bay).power = .drain ∧ (t.bay e.bay).step = some st ∧
        (t.bay e.bay).stepGen = some (t.bay e.bay).targetGen ∧
        (t.bay e.bay).target.pwrEn = (x.confirmedImage.pwrEn && decide (st ≠ .p)) ∧
        (t.bay e.bay).target.clkEn = (x.confirmedImage.clkEn && decide (st ≠ .c)) ∧
        (t.bay e.bay).target.released = (x.confirmedImage.released && decide (st ≠ .r))) ∧
    (ch.decided = .cool → input.getLsbD 11 = true →
      ∃ t, exec (.seedingReadComplete n input output direction) s = .next t ∧
        (∃ u : State, ((s.modifyBay e.bay fun y => { y with accepted := seeded }).enqueue (.bay e.bay)
            (.link .bound .bound)).CoolEntered u e.bay (some .adopt) ∧
          u.bay e.bay = t.bay e.bay ∧ t.events = (u.tellHunt n hunt).events) ∧
        ((t.bay e.bay).power ≠ .ramp → (t.bay e.bay).target = corrected .off)) ∧
    (ch.decided = .cool → input.getLsbD 11 = false → (s.profileOf e.bay).cooldown ≠ 0 →
      x.slot.inProgress = false →
      binds [.state .cool .adopt, .fault .fltInputIdle] fun t =>
        (t.bay e.bay).power = .cool ∧ (t.bay e.bay).idleNote = true ∧ (t.bay e.bay).target = corrected .off) ∧
    (ch.decided = .off → x.config.autoOn = false ∨ seeded.present = false ∨ seeded.latchClosed = false ∨
        (∀ m, seeded.moduleClass = some m → s.classMap[m.toNat] = none) →
      binds (if input.getLsbD 11 then [.state .off .adopt] else [.state .off .adopt, .fault .fltInputIdle]) fun t =>
        (t.bay e.bay).power = .off ∧ (t.bay e.bay).idleNote = !input.getLsbD 11 ∧
        (t.bay e.bay).target = corrected .off ∧ ((t.bay e.bay).target ≠ x.target → written t)) ∧
    (ch.decided = .off → x.config.autoOn = true → seeded.present = true → seeded.latchClosed = true →
      ∀ m, seeded.moduleClass = some m → s.classMap[m.toNat] ≠ none →
      binds [.state .off .adopt] fun t =>
        (t.bay e.bay).power = .ramp ∧ (t.bay e.bay).profile = s.classMap[m.toNat] ∧
        (t.bay e.bay).target.pwrEn = true ∧ (t.bay e.bay).stepGen = some (t.bay e.bay).targetGen)

/-- A NACK counts a failed attempt, except of a PROBE; while the attempt number is at most RETRY_LIMIT the
same transaction goes on as its next attempt, and otherwise a read or write of a BOUND bay takes its link to
LOST. A data line found low holds the transaction and starts the first recovery pass. -/
def Obligations.FailedAttempts : Prop :=
  ∀ (n : BusId) (e : Entry) (a : Nat) (s : State), s.OnWire n e a → busOf e.bay = n →
    let counted : Bay → Bay := fun x =>
      if e.kind = .probe then x
      else { x with failures := if x.failures = 255 then 255 else x.failures + 1 }
    (a ≤ (s.engine n).config.retryLimit.toNat →
      exec (.attemptNack n) s = .next ((s.modifyBay e.bay counted).modifyEngine n fun g =>
        { g with bus := .active { entry := e, ignored := false } (a + 1) g.config.speed none })) ∧
    ((s.engine n).config.retryLimit.toNat < a → e.kind = .inputRead ∨ e.kind = .outputWrite →
      ∃ t, exec (.attemptNack n) s = .next t ∧
        Bay.Departed (counted (s.bay e.bay)) (t.bay e.bay) .lost .noAck ∧ (t.engine n).bus = .idle ∧
        (∀ c : BayId, c ≠ e.bay → t.bay c = s.bay c) ∧
        t.events = (s.enqueueAll (.bay e.bay) (departureDetails (s.bay e.bay).slot .lost .noAck)).events ∧
        t.shell = s.shell) ∧
    exec (.attemptDataLineLow n) s = .next ((s.modifyBay e.bay counted).modifyEngine n fun g =>
      { g with bus := .recovering { entry := e, ignored := false } a 0 g.config.speed none })

/-- A clock stretch starts a timeout of 12 ms; its release stops it, and its expiry fails the attempt by
timeout, or the recovery pass: the third failed pass fails the bus, with its records in their order. That an
ignored transaction goes to recovery as any other is the model's reading (log entry 9). -/
def Obligations.ClockStretches : Prop :=
  ∀ (n : BusId) (tx : Tx) (a p : Nat) (sp : Speed) (s : State), s.resetLow = false →
    ((s.engine n).bus = .active tx a sp none →
      exec (.clockStretchDetected n) s = .next (s.modifyEngine n fun g =>
        { g with bus := .active tx a sp (some 12) })) ∧
    ((s.engine n).bus = .recovering tx a p sp none →
      exec (.clockStretchDetected n) s = .next (s.modifyEngine n fun g =>
        { g with bus := .recovering tx a p sp (some 12) })) ∧
    (∀ k, (s.engine n).bus = .active tx a sp (some k) →
      exec (.clockStretchRelease n) s = .next (s.modifyEngine n fun g => { g with bus := .active tx a sp none })) ∧
    (∀ k, (s.engine n).bus = .recovering tx a p sp (some k) →
      exec (.clockStretchRelease n) s = .next (s.modifyEngine n fun g =>
        { g with bus := .recovering tx a p sp none })) ∧
    ((s.engine n).bus = .active tx a sp (some 0) →
      exec (.clockStretchTimeout n) s = .next
        ((s.modifyBay tx.entry.bay fun x =>
          if tx.ignored = true ∨ tx.entry.kind = .probe then x
          else { x with failures := if x.failures = 255 then 255 else x.failures + 1 }).modifyEngine n fun g =>
            { g with bus := .recovering tx a 0 g.config.speed none })) ∧
    ((s.engine n).bus = .recovering tx a p sp (some 0) → p < 2 →
      exec (.clockStretchTimeout n) s = .next (s.modifyEngine n fun g =>
        { g with bus := .recovering tx a (p + 1) g.config.speed none })) ∧
    ((s.engine n).bus = .recovering tx a p sp (some 0) → 2 ≤ p →
      ∃ t, exec (.clockStretchTimeout n) s = .next t ∧ (t.engine n).bus = .failed ∧ (t.engine n).queue = [] ∧
        (t.engine n).sweep = none ∧ (t.engine n).hunt = huntLeft (s.huntDown n) ∧
        t.events = (s.tellBusDown n true).events ∧ s.SameOffBus t n ∧ t.shell = s.shell)

/-- A PROBE that is exhausted leaves its bay ABSENT, with a LINK record when the hunt found the bay LOST; a
SETUP step that is exhausted leaves its bay LOST with a LINK record. A hunted bay leaves its hunt, and a hunt
without a bay left ends with HUNT_DONE; a bay outside a hunt leaves none. -/
def Obligations.DiscoveryExhausted : Prop :=
  ∀ (n : BusId) (e : Entry) (a : Nat) (s : State), s.OnWire n e a → busOf e.bay = n →
    (s.engine n).config.retryLimit.toNat < a →
    let hunt := (s.engine n).hunt.map fun h => h.without e.bay
    let linked (t told : State) : Prop :=
      (t.engine n).bus = .idle ∧ (t.engine n).queue = (s.engine n).queue ∧
      (t.engine n).sweep = (s.engine n).sweep ∧ (t.engine n).hunt = huntLeft hunt ∧
      t.events = (told.tellHunt n hunt).events ∧ s.SameElsewhere t e.bay ∧ t.shell = s.shell
    (e.kind = .probe →
      ∃ t, exec (.attemptNack n) s = .next t ∧ t.bay e.bay = { s.bay e.bay with link := .absent } ∧
        linked t (if s.huntOrigin e.bay = some .lost
          then s.enqueue (.bay e.bay) (.link .absent .gone) else s)) ∧
    (∀ st, e.kind = .setup st →
      ∃ t, exec (.attemptNack n) s = .next t ∧
        t.bay e.bay = { s.bay e.bay with
          link := .lost, chain := none,
          failures := if (s.bay e.bay).failures = 255 then 255 else (s.bay e.bay).failures + 1 } ∧
        linked t (s.enqueue (.bay e.bay) (.link .lost .noAck)))

/-- A recovery pass that succeeds resumes the held transaction while its attempt number is at most
RETRY_LIMIT, and otherwise exhausts it, without counting the attempt again: a read or write of a BOUND bay takes
its link to LOST, a SETUP step too, and a PROBE leaves its bay ABSENT, the hunt losing the bay. The first two
consecutive passes that fail start another, and the third fails the bus: its queue is flushed, its BOUND bays
depart to LOST with cause BUS, and the records are the BUS record, those of each bay, and the HUNT_DONE of a hunt
that ends. That RETRY_LIMIT is read at the end of the pass is the model's choice (log entry 24). -/
def Obligations.RecoveryPasses : Prop :=
  ∀ (n : BusId) (tx : Tx) (a p : Nat) (sp : Speed) (s : State), s.resetLow = false →
    (s.engine n).bus = .recovering tx a p sp none →
    let b := tx.entry.bay
    let hunt := (s.engine n).hunt.map fun h => h.without b
    (tx.ignored = false → a ≤ (s.engine n).config.retryLimit.toNat →
      exec (.recoveryPassEnd n true) s = .next (s.modifyEngine n fun g =>
        { g with bus := .active tx (a + 1) g.config.speed none })) ∧
    (tx.ignored = false → (s.engine n).config.retryLimit.toNat < a → busOf b = n →
      ∃ t, exec (.recoveryPassEnd n true) s = .next t ∧ (t.engine n).bus = .idle ∧
        (∀ c : BayId, c ≠ b → t.bay c = s.bay c) ∧ t.shell = s.shell ∧
        (tx.entry.kind = .inputRead ∨ tx.entry.kind = .outputWrite →
          Bay.Departed (s.bay b) (t.bay b) .lost .noAck ∧
          t.events = (s.enqueueAll (.bay b) (departureDetails (s.bay b).slot .lost .noAck)).events) ∧
        (∀ st, tx.entry.kind = .setup st →
          t.bay b = { s.bay b with link := .lost, chain := none } ∧ (t.engine n).hunt = huntLeft hunt ∧
          t.events = ((s.enqueue (.bay b) (.link .lost .noAck)).tellHunt n hunt).events) ∧
        (tx.entry.kind = .probe →
          t.bay b = { s.bay b with link := .absent } ∧ (t.engine n).hunt = huntLeft hunt ∧
          t.events = ((if s.huntOrigin b = some .lost then s.enqueue (.bay b) (.link .absent .gone)
            else s).tellHunt n hunt).events)) ∧
    (p < 2 →
      exec (.recoveryPassEnd n false) s = .next (s.modifyEngine n fun g =>
        { g with bus := .recovering tx a (p + 1) g.config.speed none })) ∧
    (2 ≤ p → s.LinksConsistent →
      ∃ t, exec (.recoveryPassEnd n false) s = .next t ∧ (t.engine n).bus = .failed ∧ (t.engine n).queue = [] ∧
        (t.engine n).sweep = none ∧ (t.engine n).hunt = huntLeft (s.huntDown n) ∧
        t.events = (s.tellBusDown n true).events ∧ s.SameOffBus t n ∧ t.shell = s.shell ∧
        ∀ b : BayId, busOf b = n →
          ((s.bay b).link = .bound → Bay.Departed (s.bay b) (t.bay b) .lost .bus) ∧
          ((s.bay b).link = .setup → (t.bay b).link = .lost) ∧
          ((s.bay b).link = .probing → (t.bay b).link = .absent) ∧
          ((s.bay b).link = .lost ∨ (s.bay b).link = .absent → t.bay b = s.bay b))

/-! ## Invariants -/

/-- Every step keeps the form of the Event Queue: at most 32 records, distinct SEQs, nothing left
uncoalesced. -/
def Obligations.StepKeepsQueueForm : Prop :=
  ∀ s t : State, s.events.Wf → step s = .next t → t.events.Wf

/-- Every step keeps exclusive routes exclusive, and lines outside PULSE mode in QUIET with nothing owed in
QUIET; it keeps DEBOUNCE, RAMP_TIME and CLK_TO_RST above 0, attempt numbers between 1 and 8 and failed passes at
most 2. -/
def Obligations.StepKeepsRoutingAndRanges : Prop :=
  (∀ s t : State, s.RoutesExclusive → step s = .next t → t.RoutesExclusive) ∧
  (∀ s t : State, s.LinesSettled → step s = .next t → t.LinesSettled) ∧
  ∀ s t : State, s.TimesPositive → s.CountsBounded → step s = .next t → t.TimesPositive ∧ t.CountsBounded

/-- Every step keeps power UNKNOWN exactly on the bays that are not BOUND, commands in progress on BOUND
bays alone, and every transaction in its bay's link state. -/
def Obligations.StepKeepsLinksConsistent : Prop :=
  ∀ s t : State, s.LinksConsistent → step s = .next t → t.LinksConsistent

/-- Every step keeps the law of R12 on every image: no clock without power, no released reset without
clock. -/
def Obligations.StepKeepsImagesLawful : Prop :=
  ∀ s t : State, s.LinksConsistent → s.ImagesLawful → step s = .next t → t.ImagesLawful

/-- Every step keeps the bounds of the bus queues: at most one queued INPUT_READ and one queued OUTPUT_WRITE for
each bay, no other entry of a bay with a queued PROBE or SETUP, every entry on a bay of its bus, and so at most 16
entries. -/
def Obligations.StepKeepsQueueBounds : Prop :=
  ∀ s t : State, s.LinksConsistent → s.QueuesBounded → step s = .next t → t.QueuesBounded

/-- The reset state satisfies every invariant. -/
def Obligations.InvariantsAtReset : Prop :=
  State.reset.events.Wf ∧ State.reset.RoutesExclusive ∧ State.reset.LinesSettled ∧
  State.reset.TimesPositive ∧ State.reset.CountsBounded ∧ State.reset.LinksConsistent ∧
  State.reset.ImagesLawful ∧ State.reset.QueuesBounded
end

