-- ==== Sys2Proof/Laws/State.lean ====
section
/-! SUPPORT. One lemma for each field of State under each update, and what a bay or an engine is after one. -/

namespace Sys2Proof.Machine

/-! ## modifyBay -/

@[simp] theorem State.modifyBay_pending (s : State) (b : BayId) (f : Bay → Bay) :
    (s.modifyBay b f).pending = s.pending := rfl

@[simp] theorem State.modifyBay_resetLow (s : State) (b : BayId) (f : Bay → Bay) :
    (s.modifyBay b f).resetLow = s.resetLow := rfl

@[simp] theorem State.modifyBay_alerts (s : State) (b : BayId) (f : Bay → Bay) :
    (s.modifyBay b f).alerts = s.alerts := rfl

@[simp] theorem State.modifyBay_millis (s : State) (b : BayId) (f : Bay → Bay) :
    (s.modifyBay b f).millis = s.millis := rfl

@[simp] theorem State.modifyBay_bays (s : State) (b : BayId) (f : Bay → Bay) :
    (s.modifyBay b f).bays = s.bays.set b (f s.bays[b]) := rfl

@[simp] theorem State.modifyBay_profiles (s : State) (b : BayId) (f : Bay → Bay) :
    (s.modifyBay b f).profiles = s.profiles := rfl

@[simp] theorem State.modifyBay_classMap (s : State) (b : BayId) (f : Bay → Bay) :
    (s.modifyBay b f).classMap = s.classMap := rfl

@[simp] theorem State.modifyBay_engines (s : State) (b : BayId) (f : Bay → Bay) :
    (s.modifyBay b f).engines = s.engines := rfl

@[simp] theorem State.modifyBay_events (s : State) (b : BayId) (f : Bay → Bay) :
    (s.modifyBay b f).events = s.events := rfl

@[simp] theorem State.modifyBay_routing (s : State) (b : BayId) (f : Bay → Bay) :
    (s.modifyBay b f).routing = s.routing := rfl

@[simp] theorem State.modifyBay_routeConflict (s : State) (b : BayId) (f : Bay → Bay) :
    (s.modifyBay b f).routeConflict = s.routeConflict := rfl

@[simp] theorem State.modifyBay_lines (s : State) (b : BayId) (f : Bay → Bay) :
    (s.modifyBay b f).lines = s.lines := rfl

@[simp] theorem State.modifyBay_globalStatus (s : State) (b : BayId) (f : Bay → Bay) :
    (s.modifyBay b f).globalStatus = s.globalStatus := rfl

@[simp] theorem State.modifyBay_port (s : State) (b : BayId) (f : Bay → Bay) :
    (s.modifyBay b f).port = s.port := rfl

@[simp] theorem State.modifyBay_engine (s : State) (b : BayId) (f : Bay → Bay) (m : BusId) : (s.modifyBay b f).engine m = s.engine m := rfl

/-! ## modifyEngine -/

@[simp] theorem State.modifyEngine_pending (s : State) (n : BusId) (f : Engine → Engine) :
    (s.modifyEngine n f).pending = s.pending := rfl

@[simp] theorem State.modifyEngine_resetLow (s : State) (n : BusId) (f : Engine → Engine) :
    (s.modifyEngine n f).resetLow = s.resetLow := rfl

@[simp] theorem State.modifyEngine_alerts (s : State) (n : BusId) (f : Engine → Engine) :
    (s.modifyEngine n f).alerts = s.alerts := rfl

@[simp] theorem State.modifyEngine_millis (s : State) (n : BusId) (f : Engine → Engine) :
    (s.modifyEngine n f).millis = s.millis := rfl

@[simp] theorem State.modifyEngine_bays (s : State) (n : BusId) (f : Engine → Engine) :
    (s.modifyEngine n f).bays = s.bays := rfl

@[simp] theorem State.modifyEngine_profiles (s : State) (n : BusId) (f : Engine → Engine) :
    (s.modifyEngine n f).profiles = s.profiles := rfl

@[simp] theorem State.modifyEngine_classMap (s : State) (n : BusId) (f : Engine → Engine) :
    (s.modifyEngine n f).classMap = s.classMap := rfl

@[simp] theorem State.modifyEngine_engines (s : State) (n : BusId) (f : Engine → Engine) :
    (s.modifyEngine n f).engines = s.engines.set n (f s.engines[n]) := rfl

@[simp] theorem State.modifyEngine_events (s : State) (n : BusId) (f : Engine → Engine) :
    (s.modifyEngine n f).events = s.events := rfl

@[simp] theorem State.modifyEngine_routing (s : State) (n : BusId) (f : Engine → Engine) :
    (s.modifyEngine n f).routing = s.routing := rfl

@[simp] theorem State.modifyEngine_routeConflict (s : State) (n : BusId) (f : Engine → Engine) :
    (s.modifyEngine n f).routeConflict = s.routeConflict := rfl

@[simp] theorem State.modifyEngine_lines (s : State) (n : BusId) (f : Engine → Engine) :
    (s.modifyEngine n f).lines = s.lines := rfl

@[simp] theorem State.modifyEngine_globalStatus (s : State) (n : BusId) (f : Engine → Engine) :
    (s.modifyEngine n f).globalStatus = s.globalStatus := rfl

@[simp] theorem State.modifyEngine_port (s : State) (n : BusId) (f : Engine → Engine) :
    (s.modifyEngine n f).port = s.port := rfl

@[simp] theorem State.modifyEngine_bay (s : State) (n : BusId) (f : Engine → Engine) (c : BayId) : (s.modifyEngine n f).bay c = s.bay c := rfl

/-! ## modifyLine -/

@[simp] theorem State.modifyLine_pending (s : State) (k : LineId) (f : Line → Line) :
    (s.modifyLine k f).pending = s.pending := rfl

@[simp] theorem State.modifyLine_resetLow (s : State) (k : LineId) (f : Line → Line) :
    (s.modifyLine k f).resetLow = s.resetLow := rfl

@[simp] theorem State.modifyLine_alerts (s : State) (k : LineId) (f : Line → Line) :
    (s.modifyLine k f).alerts = s.alerts := rfl

@[simp] theorem State.modifyLine_millis (s : State) (k : LineId) (f : Line → Line) :
    (s.modifyLine k f).millis = s.millis := rfl

@[simp] theorem State.modifyLine_bays (s : State) (k : LineId) (f : Line → Line) :
    (s.modifyLine k f).bays = s.bays := rfl

@[simp] theorem State.modifyLine_profiles (s : State) (k : LineId) (f : Line → Line) :
    (s.modifyLine k f).profiles = s.profiles := rfl

@[simp] theorem State.modifyLine_classMap (s : State) (k : LineId) (f : Line → Line) :
    (s.modifyLine k f).classMap = s.classMap := rfl

@[simp] theorem State.modifyLine_engines (s : State) (k : LineId) (f : Line → Line) :
    (s.modifyLine k f).engines = s.engines := rfl

@[simp] theorem State.modifyLine_events (s : State) (k : LineId) (f : Line → Line) :
    (s.modifyLine k f).events = s.events := rfl

@[simp] theorem State.modifyLine_routing (s : State) (k : LineId) (f : Line → Line) :
    (s.modifyLine k f).routing = s.routing := rfl

@[simp] theorem State.modifyLine_routeConflict (s : State) (k : LineId) (f : Line → Line) :
    (s.modifyLine k f).routeConflict = s.routeConflict := rfl

@[simp] theorem State.modifyLine_lines (s : State) (k : LineId) (f : Line → Line) :
    (s.modifyLine k f).lines = s.lines.set k (f s.lines[k]) := rfl

@[simp] theorem State.modifyLine_globalStatus (s : State) (k : LineId) (f : Line → Line) :
    (s.modifyLine k f).globalStatus = s.globalStatus := rfl

@[simp] theorem State.modifyLine_port (s : State) (k : LineId) (f : Line → Line) :
    (s.modifyLine k f).port = s.port := rfl

@[simp] theorem State.modifyLine_bay (s : State) (k : LineId) (f : Line → Line) (c : BayId) : (s.modifyLine k f).bay c = s.bay c := rfl

@[simp] theorem State.modifyLine_engine (s : State) (k : LineId) (f : Line → Line) (m : BusId) : (s.modifyLine k f).engine m = s.engine m := rfl

/-! ## enqueue -/

@[simp] theorem State.enqueue_pending (s : State) (src : Source) (d : Detail) :
    (s.enqueue src d).pending = s.pending := rfl

@[simp] theorem State.enqueue_resetLow (s : State) (src : Source) (d : Detail) :
    (s.enqueue src d).resetLow = s.resetLow := rfl

@[simp] theorem State.enqueue_alerts (s : State) (src : Source) (d : Detail) :
    (s.enqueue src d).alerts = s.alerts := rfl

@[simp] theorem State.enqueue_millis (s : State) (src : Source) (d : Detail) :
    (s.enqueue src d).millis = s.millis := rfl

@[simp] theorem State.enqueue_bays (s : State) (src : Source) (d : Detail) :
    (s.enqueue src d).bays = s.bays := rfl

@[simp] theorem State.enqueue_profiles (s : State) (src : Source) (d : Detail) :
    (s.enqueue src d).profiles = s.profiles := rfl

@[simp] theorem State.enqueue_classMap (s : State) (src : Source) (d : Detail) :
    (s.enqueue src d).classMap = s.classMap := rfl

@[simp] theorem State.enqueue_engines (s : State) (src : Source) (d : Detail) :
    (s.enqueue src d).engines = s.engines := rfl

@[simp] theorem State.enqueue_events (s : State) (src : Source) (d : Detail) :
    (s.enqueue src d).events = s.events.enqueue (s.routing[src.index]).line s.millis src d := rfl

@[simp] theorem State.enqueue_routing (s : State) (src : Source) (d : Detail) :
    (s.enqueue src d).routing = s.routing := rfl

@[simp] theorem State.enqueue_routeConflict (s : State) (src : Source) (d : Detail) :
    (s.enqueue src d).routeConflict = s.routeConflict := rfl

@[simp] theorem State.enqueue_lines (s : State) (src : Source) (d : Detail) :
    (s.enqueue src d).lines = s.lines := rfl

@[simp] theorem State.enqueue_globalStatus (s : State) (src : Source) (d : Detail) :
    (s.enqueue src d).globalStatus = s.globalStatus := rfl

@[simp] theorem State.enqueue_port (s : State) (src : Source) (d : Detail) :
    (s.enqueue src d).port = s.port := rfl

@[simp] theorem State.enqueue_bay (s : State) (src : Source) (d : Detail) (c : BayId) : (s.enqueue src d).bay c = s.bay c := rfl

@[simp] theorem State.enqueue_engine (s : State) (src : Source) (d : Detail) (m : BusId) : (s.enqueue src d).engine m = s.engine m := rfl

/-! ## afterWord -/

@[simp] theorem State.afterWord_pending (s : State) (a : Addr) :
    (s.afterWord a).pending = s.pending := rfl

@[simp] theorem State.afterWord_resetLow (s : State) (a : Addr) :
    (s.afterWord a).resetLow = s.resetLow := rfl

@[simp] theorem State.afterWord_alerts (s : State) (a : Addr) :
    (s.afterWord a).alerts = s.alerts := rfl

@[simp] theorem State.afterWord_millis (s : State) (a : Addr) :
    (s.afterWord a).millis = s.millis := rfl

@[simp] theorem State.afterWord_bays (s : State) (a : Addr) :
    (s.afterWord a).bays = s.bays := rfl

@[simp] theorem State.afterWord_profiles (s : State) (a : Addr) :
    (s.afterWord a).profiles = s.profiles := rfl

@[simp] theorem State.afterWord_classMap (s : State) (a : Addr) :
    (s.afterWord a).classMap = s.classMap := rfl

@[simp] theorem State.afterWord_engines (s : State) (a : Addr) :
    (s.afterWord a).engines = s.engines := rfl

@[simp] theorem State.afterWord_events (s : State) (a : Addr) :
    (s.afterWord a).events = s.events := rfl

@[simp] theorem State.afterWord_routing (s : State) (a : Addr) :
    (s.afterWord a).routing = s.routing := rfl

@[simp] theorem State.afterWord_routeConflict (s : State) (a : Addr) :
    (s.afterWord a).routeConflict = s.routeConflict := rfl

@[simp] theorem State.afterWord_lines (s : State) (a : Addr) :
    (s.afterWord a).lines = s.lines := rfl

@[simp] theorem State.afterWord_globalStatus (s : State) (a : Addr) :
    (s.afterWord a).globalStatus = s.globalStatus := rfl

@[simp] theorem State.afterWord_port (s : State) (a : Addr) :
    (s.afterWord a).port = { s.port with frame := .opened (some (a + 4)) } := rfl

@[simp] theorem State.afterWord_bay (s : State) (a : Addr) (c : BayId) : (s.afterWord a).bay c = s.bay c := rfl

@[simp] theorem State.afterWord_engine (s : State) (a : Addr) (m : BusId) : (s.afterWord a).engine m = s.engine m := rfl

/-! ## setAlert -/

@[simp] theorem State.setAlert_pending (s : State) (n : BusId) (v : Bool) :
    (s.setAlert n v).pending = s.pending := rfl

@[simp] theorem State.setAlert_resetLow (s : State) (n : BusId) (v : Bool) :
    (s.setAlert n v).resetLow = s.resetLow := rfl

@[simp] theorem State.setAlert_alerts (s : State) (n : BusId) (v : Bool) :
    (s.setAlert n v).alerts = s.alerts.set n v := rfl

@[simp] theorem State.setAlert_millis (s : State) (n : BusId) (v : Bool) :
    (s.setAlert n v).millis = s.millis := rfl

@[simp] theorem State.setAlert_bays (s : State) (n : BusId) (v : Bool) :
    (s.setAlert n v).bays = s.bays := rfl

@[simp] theorem State.setAlert_profiles (s : State) (n : BusId) (v : Bool) :
    (s.setAlert n v).profiles = s.profiles := rfl

@[simp] theorem State.setAlert_classMap (s : State) (n : BusId) (v : Bool) :
    (s.setAlert n v).classMap = s.classMap := rfl

@[simp] theorem State.setAlert_engines (s : State) (n : BusId) (v : Bool) :
    (s.setAlert n v).engines = s.engines := rfl

@[simp] theorem State.setAlert_events (s : State) (n : BusId) (v : Bool) :
    (s.setAlert n v).events = s.events := rfl

@[simp] theorem State.setAlert_routing (s : State) (n : BusId) (v : Bool) :
    (s.setAlert n v).routing = s.routing := rfl

@[simp] theorem State.setAlert_routeConflict (s : State) (n : BusId) (v : Bool) :
    (s.setAlert n v).routeConflict = s.routeConflict := rfl

@[simp] theorem State.setAlert_lines (s : State) (n : BusId) (v : Bool) :
    (s.setAlert n v).lines = s.lines := rfl

@[simp] theorem State.setAlert_globalStatus (s : State) (n : BusId) (v : Bool) :
    (s.setAlert n v).globalStatus = s.globalStatus := rfl

@[simp] theorem State.setAlert_port (s : State) (n : BusId) (v : Bool) :
    (s.setAlert n v).port = s.port := rfl

@[simp] theorem State.setAlert_bay (s : State) (n : BusId) (v : Bool) (c : BayId) : (s.setAlert n v).bay c = s.bay c := rfl

@[simp] theorem State.setAlert_engine (s : State) (n : BusId) (v : Bool) (m : BusId) : (s.setAlert n v).engine m = s.engine m := rfl

/-! ## answerGlobal -/

@[simp] theorem State.answerGlobal_pending (s : State) (code : BitVec 4) (r : CommandResult) (tag : Byte) :
    (s.answerGlobal code r tag).pending = s.pending := rfl

@[simp] theorem State.answerGlobal_resetLow (s : State) (code : BitVec 4) (r : CommandResult) (tag : Byte) :
    (s.answerGlobal code r tag).resetLow = s.resetLow := rfl

@[simp] theorem State.answerGlobal_alerts (s : State) (code : BitVec 4) (r : CommandResult) (tag : Byte) :
    (s.answerGlobal code r tag).alerts = s.alerts := rfl

@[simp] theorem State.answerGlobal_millis (s : State) (code : BitVec 4) (r : CommandResult) (tag : Byte) :
    (s.answerGlobal code r tag).millis = s.millis := rfl

@[simp] theorem State.answerGlobal_bays (s : State) (code : BitVec 4) (r : CommandResult) (tag : Byte) :
    (s.answerGlobal code r tag).bays = s.bays := rfl

@[simp] theorem State.answerGlobal_profiles (s : State) (code : BitVec 4) (r : CommandResult) (tag : Byte) :
    (s.answerGlobal code r tag).profiles = s.profiles := rfl

@[simp] theorem State.answerGlobal_classMap (s : State) (code : BitVec 4) (r : CommandResult) (tag : Byte) :
    (s.answerGlobal code r tag).classMap = s.classMap := rfl

@[simp] theorem State.answerGlobal_engines (s : State) (code : BitVec 4) (r : CommandResult) (tag : Byte) :
    (s.answerGlobal code r tag).engines = s.engines := rfl

@[simp] theorem State.answerGlobal_events (s : State) (code : BitVec 4) (r : CommandResult) (tag : Byte) :
    (s.answerGlobal code r tag).events = s.events := rfl

@[simp] theorem State.answerGlobal_routing (s : State) (code : BitVec 4) (r : CommandResult) (tag : Byte) :
    (s.answerGlobal code r tag).routing = s.routing := rfl

@[simp] theorem State.answerGlobal_routeConflict (s : State) (code : BitVec 4) (r : CommandResult) (tag : Byte) :
    (s.answerGlobal code r tag).routeConflict = s.routeConflict := rfl

@[simp] theorem State.answerGlobal_lines (s : State) (code : BitVec 4) (r : CommandResult) (tag : Byte) :
    (s.answerGlobal code r tag).lines = s.lines := rfl

@[simp] theorem State.answerGlobal_globalStatus (s : State) (code : BitVec 4) (r : CommandResult) (tag : Byte) :
    (s.answerGlobal code r tag).globalStatus = { code := code, result := r, tag := tag } := rfl

@[simp] theorem State.answerGlobal_port (s : State) (code : BitVec 4) (r : CommandResult) (tag : Byte) :
    (s.answerGlobal code r tag).port = s.port := rfl

@[simp] theorem State.answerGlobal_bay (s : State) (code : BitVec 4) (r : CommandResult) (tag : Byte) (c : BayId) : (s.answerGlobal code r tag).bay c = s.bay c := rfl

@[simp] theorem State.answerGlobal_engine (s : State) (code : BitVec 4) (r : CommandResult) (tag : Byte) (m : BusId) : (s.answerGlobal code r tag).engine m = s.engine m := rfl

/-! ## clearOverflow -/

@[simp] theorem State.clearOverflow_pending (s : State) (w : Word) :
    (s.clearOverflow w).pending = s.pending := rfl

@[simp] theorem State.clearOverflow_resetLow (s : State) (w : Word) :
    (s.clearOverflow w).resetLow = s.resetLow := rfl

@[simp] theorem State.clearOverflow_alerts (s : State) (w : Word) :
    (s.clearOverflow w).alerts = s.alerts := rfl

@[simp] theorem State.clearOverflow_millis (s : State) (w : Word) :
    (s.clearOverflow w).millis = s.millis := rfl

@[simp] theorem State.clearOverflow_bays (s : State) (w : Word) :
    (s.clearOverflow w).bays = s.bays := rfl

@[simp] theorem State.clearOverflow_profiles (s : State) (w : Word) :
    (s.clearOverflow w).profiles = s.profiles := rfl

@[simp] theorem State.clearOverflow_classMap (s : State) (w : Word) :
    (s.clearOverflow w).classMap = s.classMap := rfl

@[simp] theorem State.clearOverflow_engines (s : State) (w : Word) :
    (s.clearOverflow w).engines = s.engines := rfl

@[simp] theorem State.clearOverflow_events (s : State) (w : Word) :
    (s.clearOverflow w).events = { s.events with overflow := s.events.overflow && !bitOf w 0 } := rfl

@[simp] theorem State.clearOverflow_routing (s : State) (w : Word) :
    (s.clearOverflow w).routing = s.routing := rfl

@[simp] theorem State.clearOverflow_routeConflict (s : State) (w : Word) :
    (s.clearOverflow w).routeConflict = s.routeConflict := rfl

@[simp] theorem State.clearOverflow_lines (s : State) (w : Word) :
    (s.clearOverflow w).lines = s.lines := rfl

@[simp] theorem State.clearOverflow_globalStatus (s : State) (w : Word) :
    (s.clearOverflow w).globalStatus = s.globalStatus := rfl

@[simp] theorem State.clearOverflow_port (s : State) (w : Word) :
    (s.clearOverflow w).port = s.port := rfl

@[simp] theorem State.clearOverflow_bay (s : State) (w : Word) (c : BayId) : (s.clearOverflow w).bay c = s.bay c := rfl

@[simp] theorem State.clearOverflow_engine (s : State) (w : Word) (m : BusId) : (s.clearOverflow w).engine m = s.engine m := rfl

/-! ## clearRouteConflict -/

@[simp] theorem State.clearRouteConflict_pending (s : State) (w : Word) :
    (s.clearRouteConflict w).pending = s.pending := rfl

@[simp] theorem State.clearRouteConflict_resetLow (s : State) (w : Word) :
    (s.clearRouteConflict w).resetLow = s.resetLow := rfl

@[simp] theorem State.clearRouteConflict_alerts (s : State) (w : Word) :
    (s.clearRouteConflict w).alerts = s.alerts := rfl

@[simp] theorem State.clearRouteConflict_millis (s : State) (w : Word) :
    (s.clearRouteConflict w).millis = s.millis := rfl

@[simp] theorem State.clearRouteConflict_bays (s : State) (w : Word) :
    (s.clearRouteConflict w).bays = s.bays := rfl

@[simp] theorem State.clearRouteConflict_profiles (s : State) (w : Word) :
    (s.clearRouteConflict w).profiles = s.profiles := rfl

@[simp] theorem State.clearRouteConflict_classMap (s : State) (w : Word) :
    (s.clearRouteConflict w).classMap = s.classMap := rfl

@[simp] theorem State.clearRouteConflict_engines (s : State) (w : Word) :
    (s.clearRouteConflict w).engines = s.engines := rfl

@[simp] theorem State.clearRouteConflict_events (s : State) (w : Word) :
    (s.clearRouteConflict w).events = s.events := rfl

@[simp] theorem State.clearRouteConflict_routing (s : State) (w : Word) :
    (s.clearRouteConflict w).routing = s.routing := rfl

@[simp] theorem State.clearRouteConflict_routeConflict (s : State) (w : Word) :
    (s.clearRouteConflict w).routeConflict = (s.routeConflict && !bitOf w 28) := rfl

@[simp] theorem State.clearRouteConflict_lines (s : State) (w : Word) :
    (s.clearRouteConflict w).lines = s.lines := rfl

@[simp] theorem State.clearRouteConflict_globalStatus (s : State) (w : Word) :
    (s.clearRouteConflict w).globalStatus = s.globalStatus := rfl

@[simp] theorem State.clearRouteConflict_port (s : State) (w : Word) :
    (s.clearRouteConflict w).port = s.port := rfl

@[simp] theorem State.clearRouteConflict_bay (s : State) (w : Word) (c : BayId) : (s.clearRouteConflict w).bay c = s.bay c := rfl

@[simp] theorem State.clearRouteConflict_engine (s : State) (w : Word) (m : BusId) : (s.clearRouteConflict w).engine m = s.engine m := rfl

/-! ## clearPortErrors -/

@[simp] theorem State.clearPortErrors_pending (s : State) (w : Word) :
    (s.clearPortErrors w).pending = s.pending := rfl

@[simp] theorem State.clearPortErrors_resetLow (s : State) (w : Word) :
    (s.clearPortErrors w).resetLow = s.resetLow := rfl

@[simp] theorem State.clearPortErrors_alerts (s : State) (w : Word) :
    (s.clearPortErrors w).alerts = s.alerts := rfl

@[simp] theorem State.clearPortErrors_millis (s : State) (w : Word) :
    (s.clearPortErrors w).millis = s.millis := rfl

@[simp] theorem State.clearPortErrors_bays (s : State) (w : Word) :
    (s.clearPortErrors w).bays = s.bays := rfl

@[simp] theorem State.clearPortErrors_profiles (s : State) (w : Word) :
    (s.clearPortErrors w).profiles = s.profiles := rfl

@[simp] theorem State.clearPortErrors_classMap (s : State) (w : Word) :
    (s.clearPortErrors w).classMap = s.classMap := rfl

@[simp] theorem State.clearPortErrors_engines (s : State) (w : Word) :
    (s.clearPortErrors w).engines = s.engines := rfl

@[simp] theorem State.clearPortErrors_events (s : State) (w : Word) :
    (s.clearPortErrors w).events = s.events := rfl

@[simp] theorem State.clearPortErrors_routing (s : State) (w : Word) :
    (s.clearPortErrors w).routing = s.routing := rfl

@[simp] theorem State.clearPortErrors_routeConflict (s : State) (w : Word) :
    (s.clearPortErrors w).routeConflict = s.routeConflict := rfl

@[simp] theorem State.clearPortErrors_lines (s : State) (w : Word) :
    (s.clearPortErrors w).lines = s.lines := rfl

@[simp] theorem State.clearPortErrors_globalStatus (s : State) (w : Word) :
    (s.clearPortErrors w).globalStatus = s.globalStatus := rfl

@[simp] theorem State.clearPortErrors_port (s : State) (w : Word) :
    (s.clearPortErrors w).port = { s.port with flags := s.port.flags.clearedBy w } := rfl

@[simp] theorem State.clearPortErrors_bay (s : State) (w : Word) (c : BayId) : (s.clearPortErrors w).bay c = s.bay c := rfl

@[simp] theorem State.clearPortErrors_engine (s : State) (w : Word) (m : BusId) : (s.clearPortErrors w).engine m = s.engine m := rfl

/-! ## setFrameShort -/

@[simp] theorem State.setFrameShort_pending (s : State) :
    (s.setFrameShort).pending = s.pending := rfl

@[simp] theorem State.setFrameShort_resetLow (s : State) :
    (s.setFrameShort).resetLow = s.resetLow := rfl

@[simp] theorem State.setFrameShort_alerts (s : State) :
    (s.setFrameShort).alerts = s.alerts := rfl

@[simp] theorem State.setFrameShort_millis (s : State) :
    (s.setFrameShort).millis = s.millis := rfl

@[simp] theorem State.setFrameShort_bays (s : State) :
    (s.setFrameShort).bays = s.bays := rfl

@[simp] theorem State.setFrameShort_profiles (s : State) :
    (s.setFrameShort).profiles = s.profiles := rfl

@[simp] theorem State.setFrameShort_classMap (s : State) :
    (s.setFrameShort).classMap = s.classMap := rfl

@[simp] theorem State.setFrameShort_engines (s : State) :
    (s.setFrameShort).engines = s.engines := rfl

@[simp] theorem State.setFrameShort_events (s : State) :
    (s.setFrameShort).events = s.events := rfl

@[simp] theorem State.setFrameShort_routing (s : State) :
    (s.setFrameShort).routing = s.routing := rfl

@[simp] theorem State.setFrameShort_routeConflict (s : State) :
    (s.setFrameShort).routeConflict = s.routeConflict := rfl

@[simp] theorem State.setFrameShort_lines (s : State) :
    (s.setFrameShort).lines = s.lines := rfl

@[simp] theorem State.setFrameShort_globalStatus (s : State) :
    (s.setFrameShort).globalStatus = s.globalStatus := rfl

@[simp] theorem State.setFrameShort_port (s : State) :
    (s.setFrameShort).port = { s.port with flags := { s.port.flags with frameShort := true } } := rfl

@[simp] theorem State.setFrameShort_bay (s : State) (c : BayId) : (s.setFrameShort).bay c = s.bay c := rfl

@[simp] theorem State.setFrameShort_engine (s : State) (m : BusId) : (s.setFrameShort).engine m = s.engine m := rfl

/-! ## setBadAddress -/

@[simp] theorem State.setBadAddress_pending (s : State) :
    (s.setBadAddress).pending = s.pending := rfl

@[simp] theorem State.setBadAddress_resetLow (s : State) :
    (s.setBadAddress).resetLow = s.resetLow := rfl

@[simp] theorem State.setBadAddress_alerts (s : State) :
    (s.setBadAddress).alerts = s.alerts := rfl

@[simp] theorem State.setBadAddress_millis (s : State) :
    (s.setBadAddress).millis = s.millis := rfl

@[simp] theorem State.setBadAddress_bays (s : State) :
    (s.setBadAddress).bays = s.bays := rfl

@[simp] theorem State.setBadAddress_profiles (s : State) :
    (s.setBadAddress).profiles = s.profiles := rfl

@[simp] theorem State.setBadAddress_classMap (s : State) :
    (s.setBadAddress).classMap = s.classMap := rfl

@[simp] theorem State.setBadAddress_engines (s : State) :
    (s.setBadAddress).engines = s.engines := rfl

@[simp] theorem State.setBadAddress_events (s : State) :
    (s.setBadAddress).events = s.events := rfl

@[simp] theorem State.setBadAddress_routing (s : State) :
    (s.setBadAddress).routing = s.routing := rfl

@[simp] theorem State.setBadAddress_routeConflict (s : State) :
    (s.setBadAddress).routeConflict = s.routeConflict := rfl

@[simp] theorem State.setBadAddress_lines (s : State) :
    (s.setBadAddress).lines = s.lines := rfl

@[simp] theorem State.setBadAddress_globalStatus (s : State) :
    (s.setBadAddress).globalStatus = s.globalStatus := rfl

@[simp] theorem State.setBadAddress_port (s : State) :
    (s.setBadAddress).port = { s.port with flags := { s.port.flags with badAddress := true } } := rfl

@[simp] theorem State.setBadAddress_bay (s : State) (c : BayId) : (s.setBadAddress).bay c = s.bay c := rfl

@[simp] theorem State.setBadAddress_engine (s : State) (m : BusId) : (s.setBadAddress).engine m = s.engine m := rfl

/-! ## setReadOnlyWrite -/

@[simp] theorem State.setReadOnlyWrite_pending (s : State) :
    (s.setReadOnlyWrite).pending = s.pending := rfl

@[simp] theorem State.setReadOnlyWrite_resetLow (s : State) :
    (s.setReadOnlyWrite).resetLow = s.resetLow := rfl

@[simp] theorem State.setReadOnlyWrite_alerts (s : State) :
    (s.setReadOnlyWrite).alerts = s.alerts := rfl

@[simp] theorem State.setReadOnlyWrite_millis (s : State) :
    (s.setReadOnlyWrite).millis = s.millis := rfl

@[simp] theorem State.setReadOnlyWrite_bays (s : State) :
    (s.setReadOnlyWrite).bays = s.bays := rfl

@[simp] theorem State.setReadOnlyWrite_profiles (s : State) :
    (s.setReadOnlyWrite).profiles = s.profiles := rfl

@[simp] theorem State.setReadOnlyWrite_classMap (s : State) :
    (s.setReadOnlyWrite).classMap = s.classMap := rfl

@[simp] theorem State.setReadOnlyWrite_engines (s : State) :
    (s.setReadOnlyWrite).engines = s.engines := rfl

@[simp] theorem State.setReadOnlyWrite_events (s : State) :
    (s.setReadOnlyWrite).events = s.events := rfl

@[simp] theorem State.setReadOnlyWrite_routing (s : State) :
    (s.setReadOnlyWrite).routing = s.routing := rfl

@[simp] theorem State.setReadOnlyWrite_routeConflict (s : State) :
    (s.setReadOnlyWrite).routeConflict = s.routeConflict := rfl

@[simp] theorem State.setReadOnlyWrite_lines (s : State) :
    (s.setReadOnlyWrite).lines = s.lines := rfl

@[simp] theorem State.setReadOnlyWrite_globalStatus (s : State) :
    (s.setReadOnlyWrite).globalStatus = s.globalStatus := rfl

@[simp] theorem State.setReadOnlyWrite_port (s : State) :
    (s.setReadOnlyWrite).port = { s.port with flags := { s.port.flags with readOnlyWrite := true } } := rfl

@[simp] theorem State.setReadOnlyWrite_bay (s : State) (c : BayId) : (s.setReadOnlyWrite).bay c = s.bay c := rfl

@[simp] theorem State.setReadOnlyWrite_engine (s : State) (m : BusId) : (s.setReadOnlyWrite).engine m = s.engine m := rfl

/-! ## setConfigRefused -/

@[simp] theorem State.setConfigRefused_pending (s : State) :
    (s.setConfigRefused).pending = s.pending := rfl

@[simp] theorem State.setConfigRefused_resetLow (s : State) :
    (s.setConfigRefused).resetLow = s.resetLow := rfl

@[simp] theorem State.setConfigRefused_alerts (s : State) :
    (s.setConfigRefused).alerts = s.alerts := rfl

@[simp] theorem State.setConfigRefused_millis (s : State) :
    (s.setConfigRefused).millis = s.millis := rfl

@[simp] theorem State.setConfigRefused_bays (s : State) :
    (s.setConfigRefused).bays = s.bays := rfl

@[simp] theorem State.setConfigRefused_profiles (s : State) :
    (s.setConfigRefused).profiles = s.profiles := rfl

@[simp] theorem State.setConfigRefused_classMap (s : State) :
    (s.setConfigRefused).classMap = s.classMap := rfl

@[simp] theorem State.setConfigRefused_engines (s : State) :
    (s.setConfigRefused).engines = s.engines := rfl

@[simp] theorem State.setConfigRefused_events (s : State) :
    (s.setConfigRefused).events = s.events := rfl

@[simp] theorem State.setConfigRefused_routing (s : State) :
    (s.setConfigRefused).routing = s.routing := rfl

@[simp] theorem State.setConfigRefused_routeConflict (s : State) :
    (s.setConfigRefused).routeConflict = s.routeConflict := rfl

@[simp] theorem State.setConfigRefused_lines (s : State) :
    (s.setConfigRefused).lines = s.lines := rfl

@[simp] theorem State.setConfigRefused_globalStatus (s : State) :
    (s.setConfigRefused).globalStatus = s.globalStatus := rfl

@[simp] theorem State.setConfigRefused_port (s : State) :
    (s.setConfigRefused).port = { s.port with flags := { s.port.flags with configRefused := true } } := rfl

@[simp] theorem State.setConfigRefused_bay (s : State) (c : BayId) : (s.setConfigRefused).bay c = s.bay c := rfl

@[simp] theorem State.setConfigRefused_engine (s : State) (m : BusId) : (s.setConfigRefused).engine m = s.engine m := rfl

/-! ## noticeAppends -/

@[simp] theorem State.noticeAppends_pending (s t : State) : (s.noticeAppends t).pending = t.pending := rfl

@[simp] theorem State.noticeAppends_resetLow (s t : State) : (s.noticeAppends t).resetLow = t.resetLow := rfl

@[simp] theorem State.noticeAppends_alerts (s t : State) : (s.noticeAppends t).alerts = t.alerts := rfl

@[simp] theorem State.noticeAppends_millis (s t : State) : (s.noticeAppends t).millis = t.millis := rfl

@[simp] theorem State.noticeAppends_bays (s t : State) : (s.noticeAppends t).bays = t.bays := rfl

@[simp] theorem State.noticeAppends_profiles (s t : State) : (s.noticeAppends t).profiles = t.profiles := rfl

@[simp] theorem State.noticeAppends_classMap (s t : State) : (s.noticeAppends t).classMap = t.classMap := rfl

@[simp] theorem State.noticeAppends_engines (s t : State) : (s.noticeAppends t).engines = t.engines := rfl

@[simp] theorem State.noticeAppends_events (s t : State) : (s.noticeAppends t).events = t.events := rfl

@[simp] theorem State.noticeAppends_routing (s t : State) : (s.noticeAppends t).routing = t.routing := rfl

@[simp] theorem State.noticeAppends_routeConflict (s t : State) : (s.noticeAppends t).routeConflict = t.routeConflict := rfl

@[simp] theorem State.noticeAppends_globalStatus (s t : State) : (s.noticeAppends t).globalStatus = t.globalStatus := rfl

@[simp] theorem State.noticeAppends_port (s t : State) : (s.noticeAppends t).port = t.port := rfl

@[simp] theorem State.noticeAppends_bay (s t : State) (c : BayId) : (s.noticeAppends t).bay c = t.bay c := rfl

@[simp] theorem State.noticeAppends_engine (s t : State) (m : BusId) :
    (s.noticeAppends t).engine m = t.engine m := rfl

@[simp] theorem State.noticeAppends_line (s t : State) (k : LineId) :
    (s.noticeAppends t).lines[k] =
      if s.events.lineCount (some k) < t.events.lineCount (some k) then (t.lines[k]).cause else t.lines[k] := by
  simp [State.noticeAppends]

/-- An event that appends nothing to a line leaves the lines to its own rules. -/
theorem State.noticeAppends_of_count_le (s t : State)
    (h : ∀ k : LineId, t.events.lineCount (some k) ≤ s.events.lineCount (some k)) : s.noticeAppends t = t := by
  have hl : (s.noticeAppends t).lines = t.lines := by
    apply Vector.ext
    intro i hi
    have := State.noticeAppends_line s t ⟨i, hi⟩
    rw [if_neg (Nat.not_lt.mpr (h ⟨i, hi⟩))] at this
    exact this
  have : s.noticeAppends t = { t with lines := (s.noticeAppends t).lines } := rfl
  rw [this, hl]

/-- An event that leaves the Event Queue as it was tells the Router of nothing. -/
theorem State.noticeAppends_of_events (s t : State) (h : t.events = s.events) : s.noticeAppends t = t :=
  State.noticeAppends_of_count_le s t fun k => by rw [h]

/-! ## tick -/

@[simp] theorem State.tick_pending (s : State) : s.tick.pending = s.pending := rfl

@[simp] theorem State.tick_resetLow (s : State) : s.tick.resetLow = s.resetLow := rfl

@[simp] theorem State.tick_alerts (s : State) : s.tick.alerts = s.alerts := rfl

@[simp] theorem State.tick_millis (s : State) : s.tick.millis = s.millis + 1 := rfl

@[simp] theorem State.tick_profiles (s : State) : s.tick.profiles = s.profiles := rfl

@[simp] theorem State.tick_classMap (s : State) : s.tick.classMap = s.classMap := rfl

@[simp] theorem State.tick_events (s : State) : s.tick.events = s.events := rfl

@[simp] theorem State.tick_routing (s : State) : s.tick.routing = s.routing := rfl

@[simp] theorem State.tick_routeConflict (s : State) : s.tick.routeConflict = s.routeConflict := rfl

@[simp] theorem State.tick_lines (s : State) : s.tick.lines = s.lines := rfl

@[simp] theorem State.tick_globalStatus (s : State) : s.tick.globalStatus = s.globalStatus := rfl

@[simp] theorem State.tick_port (s : State) : s.tick.port = s.port := rfl

@[simp] theorem State.tick_bay (s : State) (b : BayId) : s.tick.bay b = (s.bay b).age := by
  simp [State.tick, State.bay]

@[simp] theorem State.tick_engine (s : State) (n : BusId) : s.tick.engine n = (s.engine n).age := by
  simp [State.tick, State.engine]

/-! ## Bays, engines and lines under their updates -/

@[simp] theorem State.modifyBay_bay_self (s : State) (b : BayId) (f : Bay → Bay) :
    (s.modifyBay b f).bay b = f (s.bay b) := by
  simp [State.modifyBay, State.bay]

theorem State.modifyBay_bay_ne (s : State) (b c : BayId) (f : Bay → Bay) (h : c ≠ b) :
    (s.modifyBay b f).bay c = s.bay c := by
  have : b.val ≠ c.val := fun e => h (Fin.ext e.symm)
  simp [State.modifyBay, State.bay, Vector.getElem_set_ne, this]

theorem State.modifyBay_bay (s : State) (b c : BayId) (f : Bay → Bay) :
    (s.modifyBay b f).bay c = if c = b then f (s.bay b) else s.bay c := by
  split
  · next h => rw [h, State.modifyBay_bay_self]
  · next h => exact State.modifyBay_bay_ne s b c f h

@[simp] theorem State.modifyEngine_engine_self (s : State) (n : BusId) (f : Engine → Engine) :
    (s.modifyEngine n f).engine n = f (s.engine n) := by
  simp [State.modifyEngine, State.engine]

theorem State.modifyEngine_engine_ne (s : State) (n m : BusId) (f : Engine → Engine) (h : m ≠ n) :
    (s.modifyEngine n f).engine m = s.engine m := by
  have : n.val ≠ m.val := fun e => h (Fin.ext e.symm)
  simp [State.modifyEngine, State.engine, Vector.getElem_set_ne, this]

theorem State.modifyEngine_engine (s : State) (n m : BusId) (f : Engine → Engine) :
    (s.modifyEngine n f).engine m = if m = n then f (s.engine n) else s.engine m := by
  split
  · next h => rw [h, State.modifyEngine_engine_self]
  · next h => exact State.modifyEngine_engine_ne s n m f h

@[simp] theorem State.modifyLine_line_self (s : State) (k : LineId) (f : Line → Line) :
    (s.modifyLine k f).lines[k] = f s.lines[k] := by
  simp [State.modifyLine]

theorem State.modifyLine_line_ne (s : State) (k j : LineId) (f : Line → Line) (h : j ≠ k) :
    (s.modifyLine k f).lines[j] = s.lines[j] := by
  have : k.val ≠ j.val := fun e => h (Fin.ext e.symm)
  simp [State.modifyLine, Vector.getElem_set_ne, this]

end Sys2Proof.Machine
end

