-- ==== Sys2Proof/Laws/Elsewhere.lean ====
section
/-! SUPPORT. For each operation of one bay: it leaves every other bay and every other bus alone. -/

namespace Sys2Proof.Machine

set_option linter.unusedTactic false
set_option linter.unnecessarySeqFocus false
set_option linter.unusedVariables false
set_option linter.unusedSimpArgs false

/-- A fold of an operation that leaves a bay alone leaves it alone. -/
theorem State.foldl_bay {α : Type} (f : State → α → State) (c : BayId) (h : ∀ s a, (f s a).bay c = s.bay c) :
    ∀ (l : List α) (s : State), (l.foldl f s).bay c = s.bay c
  | [], _ => rfl
  | a :: l, s => (State.foldl_bay f c h l (f s a)).trans (h s a)

/-- A fold of an operation that leaves an engine alone leaves it alone. -/
theorem State.foldl_engine {α : Type} (f : State → α → State) (m : BusId) :
    ∀ (l : List α) (s : State), (∀ s, ∀ a ∈ l, (f s a).engine m = s.engine m) →
      (l.foldl f s).engine m = s.engine m
  | [], _, _ => rfl
  | a :: l, s, h =>
    (State.foldl_engine f m l (f s a) fun s x hx => h s x (List.mem_cons_of_mem a hx)).trans
      (h s a (List.mem_cons_self ..))

/-- The bays of a bus are on it. -/
theorem busOf_of_mem_baysOf : ∀ (n : BusId) (b : BayId), b ∈ baysOf n → busOf b = n := by decide

theorem State.modifyEngine_engine_other (s : State) (n m : BusId) (f : Engine → Engine) (h : m ≠ n) :
    (s.modifyEngine n f).engine m = s.engine m := State.modifyEngine_engine_ne s n m f h

@[simp] theorem State.requestRead_bay_ne (s : State) (b : BayId) (w : Waiters) (c : BayId) :
    (s.requestRead b w).bay c = s.bay c := by
  unfold State.requestRead
  try dsimp only
  (repeat' split) <;> simp

@[simp] theorem State.requestRead_engine_ne (s : State) (b : BayId) (w : Waiters) (m : BusId) (h : m ≠ busOf b) :
    (s.requestRead b w).engine m = s.engine m := by
  unfold State.requestRead
  try dsimp only
  (repeat' split) <;> simp [State.modifyEngine_engine_ne, h]

@[simp] theorem State.requestWrite_bay_ne (s : State) (b : BayId) (u : Bool) (c : BayId) :
    (s.requestWrite b u).bay c = s.bay c := by
  unfold State.requestWrite
  try dsimp only
  (repeat' split) <;> simp

@[simp] theorem State.requestWrite_engine_ne (s : State) (b : BayId) (u : Bool) (m : BusId) (h : m ≠ busOf b) :
    (s.requestWrite b u).engine m = s.engine m := by
  unfold State.requestWrite
  try dsimp only
  (repeat' split) <;> simp [State.modifyEngine_engine_ne, h]

@[simp] theorem State.requestDiscovery_bay_ne (s : State) (b : BayId) (k : TxKind) (c' : Option Written) (c : BayId) :
    (s.requestDiscovery b k c').bay c = s.bay c := by
  unfold State.requestDiscovery
  try dsimp only
  (repeat' split) <;> simp

@[simp] theorem State.requestDiscovery_engine_ne (s : State) (b : BayId) (k : TxKind) (c' : Option Written) (m : BusId) (h : m ≠ busOf b) :
    (s.requestDiscovery b k c').engine m = s.engine m := by
  unfold State.requestDiscovery
  try dsimp only
  (repeat' split) <;> simp [State.modifyEngine_engine_ne, h]

@[simp] theorem State.updateTarget_bay_ne (s : State) (b : BayId) (f : Image → Image) (u : Bool) (c : BayId) (h : c ≠ b) :
    (s.updateTarget b f u).bay c = s.bay c := by
  unfold State.updateTarget
  try dsimp only
  (repeat' split) <;> simp [State.modifyBay_bay_ne, h]

@[simp] theorem State.updateTarget_engine_ne (s : State) (b : BayId) (f : Image → Image) (u : Bool) (m : BusId) (h : m ≠ busOf b) :
    (s.updateTarget b f u).engine m = s.engine m := by
  unfold State.updateTarget
  try dsimp only
  (repeat' split) <;> simp [State.modifyEngine_engine_ne, h]

@[simp] theorem State.completeCommand_bay_ne (s : State) (b : BayId) (r : CommandResult) (c : BayId) (h : c ≠ b) :
    (s.completeCommand b r).bay c = s.bay c := by
  unfold State.completeCommand
  try dsimp only
  (repeat' split) <;> simp [State.modifyBay_bay_ne, h]

@[simp] theorem State.completeCommand_engine_ne (s : State) (b : BayId) (r : CommandResult) (m : BusId) (h : m ≠ busOf b) :
    (s.completeCommand b r).engine m = s.engine m := by
  unfold State.completeCommand
  try dsimp only
  (repeat' split) <;> simp [State.modifyEngine_engine_ne, h]

@[simp] theorem State.startSweep_bay_ne (s : State) (n : BusId) (c : BayId) : (s.startSweep n).bay c = s.bay c := by
  unfold State.startSweep
  dsimp only
  rw [State.modifyEngine_bay]
  exact State.foldl_bay _ c (fun t b => State.requestRead_bay_ne t b _ c) _ s

@[simp] theorem State.startSweep_engine_ne (s : State) (n : BusId) (m : BusId) (h : m ≠ n) :
    (s.startSweep n).engine m = s.engine m := by
  unfold State.startSweep
  dsimp only
  rw [State.modifyEngine_engine_ne _ _ _ _ h]
  refine State.foldl_engine _ m _ s fun t b hb => State.requestRead_engine_ne t b _ m ?_
  rw [busOf_of_mem_baysOf n b (List.mem_of_mem_filter hb)]
  exact h

@[simp] theorem State.evalSweep_bay_ne (s : State) (n : BusId) (c : BayId) :
    (s.evalSweep n).bay c = s.bay c := by
  unfold State.evalSweep
  try dsimp only
  (repeat' split) <;> simp

@[simp] theorem State.evalSweep_engine_ne (s : State) (n : BusId) (m : BusId) (h : m ≠ n) :
    (s.evalSweep n).engine m = s.engine m := by
  unfold State.evalSweep
  try dsimp only
  (repeat' split) <;> simp [State.modifyEngine_engine_ne, h]

@[simp] theorem State.sweepLeave_bay_ne (s : State) (b : BayId) (c : BayId) :
    (s.sweepLeave b).bay c = s.bay c := by
  unfold State.sweepLeave
  try dsimp only
  (repeat' split) <;> simp

@[simp] theorem State.sweepLeave_engine_ne (s : State) (b : BayId) (m : BusId) (h : m ≠ busOf b) :
    (s.sweepLeave b).engine m = s.engine m := by
  unfold State.sweepLeave
  try dsimp only
  (repeat' split) <;> simp [State.modifyEngine_engine_ne, h]

@[simp] theorem State.dropEntries_bay_ne (s : State) (b : BayId) (c : BayId) :
    (s.dropEntries b).bay c = s.bay c := by
  unfold State.dropEntries
  try dsimp only
  (repeat' split) <;> simp

@[simp] theorem State.dropEntries_engine_ne (s : State) (b : BayId) (m : BusId) (h : m ≠ busOf b) :
    (s.dropEntries b).engine m = s.engine m := by
  unfold State.dropEntries
  try dsimp only
  (repeat' split) <;> simp [State.modifyEngine_engine_ne, h]

@[simp] theorem State.depart_bay_ne (s : State) (b : BayId) (d : LinkState) (k : LinkCause) (c : BayId) (h : c ≠ b) :
    (s.depart b d k).bay c = s.bay c := by
  unfold State.depart
  try dsimp only
  (repeat' split) <;> simp [State.modifyBay_bay_ne, h]

@[simp] theorem State.depart_engine_ne (s : State) (b : BayId) (d : LinkState) (k : LinkCause) (m : BusId) (h : m ≠ busOf b) :
    (s.depart b d k).engine m = s.engine m := by
  unfold State.depart
  try dsimp only
  (repeat' split) <;> simp [State.modifyEngine_engine_ne, h]

@[simp] theorem State.huntLeave_bay_ne (s : State) (b : BayId) (c : BayId) :
    (s.huntLeave b).bay c = s.bay c := by
  unfold State.huntLeave
  try dsimp only
  (repeat' split) <;> simp

@[simp] theorem State.huntLeave_engine_ne (s : State) (b : BayId) (m : BusId) (h : m ≠ busOf b) :
    (s.huntLeave b).engine m = s.engine m := by
  unfold State.huntLeave
  try dsimp only
  (repeat' split) <;> simp [State.modifyEngine_engine_ne, h]

@[simp] theorem State.endHunt_bay_ne (s : State) (n : BusId) (c : BayId) :
    (s.endHunt n).bay c = s.bay c := by
  unfold State.endHunt
  try dsimp only
  (repeat' split) <;> simp

@[simp] theorem State.endHunt_engine_ne (s : State) (n : BusId) (m : BusId) (h : m ≠ n) :
    (s.endHunt n).engine m = s.engine m := by
  unfold State.endHunt
  try dsimp only
  (repeat' split) <;> simp [State.modifyEngine_engine_ne, h]

@[simp] theorem State.huntReach_bay_ne (s : State) (b : BayId) (c : BayId) (h : c ≠ b) :
    (s.huntReach b).bay c = s.bay c := by
  unfold State.huntReach
  try dsimp only
  (repeat' split) <;> simp [State.modifyBay_bay_ne, h]

@[simp] theorem State.huntReach_engine_ne (s : State) (b : BayId) (m : BusId) (h : m ≠ busOf b) :
    (s.huntReach b).engine m = s.engine m := by
  unfold State.huntReach
  try dsimp only
  (repeat' split) <;> simp [State.modifyEngine_engine_ne, h]

@[simp] theorem State.startTimer_bay_ne (s : State) (b : BayId) (p : SeqPurpose) (n : Nat) (c : BayId) (h : c ≠ b) :
    (s.startTimer b p n).bay c = s.bay c := by
  unfold State.startTimer
  try dsimp only
  (repeat' split) <;> simp [State.modifyBay_bay_ne, h]

@[simp] theorem State.startTimer_engine_ne (s : State) (b : BayId) (p : SeqPurpose) (n : Nat) (m : BusId) (h : m ≠ busOf b) :
    (s.startTimer b p n).engine m = s.engine m := by
  unfold State.startTimer
  try dsimp only
  (repeat' split) <;> simp [State.modifyEngine_engine_ne, h]

@[simp] theorem State.rampWaitEnd_bay_ne (s : State) (b : BayId) (c : BayId) (h : c ≠ b) :
    (s.rampWaitEnd b).bay c = s.bay c := by
  unfold State.rampWaitEnd
  try dsimp only
  (repeat' split) <;> simp [State.modifyBay_bay_ne, h]

@[simp] theorem State.rampWaitEnd_engine_ne (s : State) (b : BayId) (m : BusId) (h : m ≠ busOf b) :
    (s.rampWaitEnd b).engine m = s.engine m := by
  unfold State.rampWaitEnd
  try dsimp only
  (repeat' split) <;> simp [State.modifyEngine_engine_ne, h]

@[simp] theorem State.beginPowerUp_bay_ne (s : State) (b : BayId) (c : BayId) (h : c ≠ b) :
    (s.beginPowerUp b).bay c = s.bay c := by
  unfold State.beginPowerUp
  try dsimp only
  (repeat' split) <;> simp [State.modifyBay_bay_ne, h]

@[simp] theorem State.beginPowerUp_engine_ne (s : State) (b : BayId) (m : BusId) (h : m ≠ busOf b) :
    (s.beginPowerUp b).engine m = s.engine m := by
  unfold State.beginPowerUp
  try dsimp only
  (repeat' split) <;> simp [State.modifyEngine_engine_ne, h]

@[simp] theorem State.autoStart_bay_ne (s : State) (b : BayId) (c : BayId) (h : c ≠ b) :
    (s.autoStart b).bay c = s.bay c := by
  unfold State.autoStart
  try dsimp only
  (repeat' split) <;> simp [State.modifyBay_bay_ne, h]

@[simp] theorem State.autoStart_engine_ne (s : State) (b : BayId) (m : BusId) (h : m ≠ busOf b) :
    (s.autoStart b).engine m = s.engine m := by
  unfold State.autoStart
  try dsimp only
  (repeat' split) <;> simp [State.modifyEngine_engine_ne, h]

@[simp] theorem State.clockWaitEnd_bay_ne (s : State) (b : BayId) (c : BayId) (h : c ≠ b) :
    (s.clockWaitEnd b).bay c = s.bay c := by
  unfold State.clockWaitEnd
  try dsimp only
  (repeat' split) <;> simp [State.modifyBay_bay_ne, h]

@[simp] theorem State.clockWaitEnd_engine_ne (s : State) (b : BayId) (m : BusId) (h : m ≠ busOf b) :
    (s.clockWaitEnd b).engine m = s.engine m := by
  unfold State.clockWaitEnd
  try dsimp only
  (repeat' split) <;> simp [State.modifyEngine_engine_ne, h]

@[simp] theorem State.endOfRamp_bay_ne (s : State) (b : BayId) (c : BayId) (h : c ≠ b) :
    (s.endOfRamp b).bay c = s.bay c := by
  unfold State.endOfRamp
  try dsimp only
  (repeat' split) <;> simp [State.modifyBay_bay_ne, h]

@[simp] theorem State.endOfRamp_engine_ne (s : State) (b : BayId) (m : BusId) (h : m ≠ busOf b) :
    (s.endOfRamp b).engine m = s.engine m := by
  unfold State.endOfRamp
  try dsimp only
  (repeat' split) <;> simp [State.modifyEngine_engine_ne, h]

@[simp] theorem State.enterOn_bay_ne (s : State) (b : BayId) (c : BayId) (h : c ≠ b) :
    (s.enterOn b).bay c = s.bay c := by
  unfold State.enterOn
  try dsimp only
  (repeat' split) <;> simp [State.modifyBay_bay_ne, h]

@[simp] theorem State.enterOn_engine_ne (s : State) (b : BayId) (m : BusId) (h : m ≠ busOf b) :
    (s.enterOn b).engine m = s.engine m := by
  unfold State.enterOn
  try dsimp only
  (repeat' split) <;> simp [State.modifyEngine_engine_ne, h]

@[simp] theorem State.releaseReset_bay_ne (s : State) (b : BayId) (c : BayId) (h : c ≠ b) :
    (s.releaseReset b).bay c = s.bay c := by
  unfold State.releaseReset
  try dsimp only
  (repeat' split) <;> simp [State.modifyBay_bay_ne, h]

@[simp] theorem State.releaseReset_engine_ne (s : State) (b : BayId) (m : BusId) (h : m ≠ busOf b) :
    (s.releaseReset b).engine m = s.engine m := by
  unfold State.releaseReset
  try dsimp only
  (repeat' split) <;> simp [State.modifyEngine_engine_ne, h]

@[simp] theorem State.enterOff_bay_ne (s : State) (b : BayId) (c : BayId) (h : c ≠ b) :
    (s.enterOff b).bay c = s.bay c := by
  unfold State.enterOff
  try dsimp only
  (repeat' split) <;> simp [State.modifyBay_bay_ne, h]

@[simp] theorem State.enterOff_engine_ne (s : State) (b : BayId) (m : BusId) (h : m ≠ busOf b) :
    (s.enterOff b).engine m = s.engine m := by
  unfold State.enterOff
  try dsimp only
  (repeat' split) <;> simp [State.modifyEngine_engine_ne, h]

@[simp] theorem State.abandonHeld_bay_ne (s : State) (b : BayId) (c : BayId) (h : c ≠ b) :
    (s.abandonHeld b).bay c = s.bay c := by
  unfold State.abandonHeld
  try dsimp only
  (repeat' split) <;> simp [State.modifyBay_bay_ne, h]

@[simp] theorem State.abandonHeld_engine_ne (s : State) (b : BayId) (m : BusId) (h : m ≠ busOf b) :
    (s.abandonHeld b).engine m = s.engine m := by
  unfold State.abandonHeld
  try dsimp only
  (repeat' split) <;> simp [State.modifyEngine_engine_ne, h]

@[simp] theorem State.cooldownEnds_bay_ne (s : State) (b : BayId) (c : BayId) (h : c ≠ b) :
    (s.cooldownEnds b).bay c = s.bay c := by
  unfold State.cooldownEnds
  try dsimp only
  (repeat' split) <;> simp [State.modifyBay_bay_ne, h]

@[simp] theorem State.cooldownEnds_engine_ne (s : State) (b : BayId) (m : BusId) (h : m ≠ busOf b) :
    (s.cooldownEnds b).engine m = s.engine m := by
  unfold State.cooldownEnds
  try dsimp only
  (repeat' split) <;> simp [State.modifyEngine_engine_ne, h]

@[simp] theorem State.enterCool_bay_ne (s : State) (b : BayId) (k : Option StateCause) (c : BayId) (h : c ≠ b) :
    (s.enterCool b k).bay c = s.bay c := by
  unfold State.enterCool
  try dsimp only
  (repeat' split) <;> simp [State.modifyBay_bay_ne, h]

@[simp] theorem State.enterCool_engine_ne (s : State) (b : BayId) (k : Option StateCause) (m : BusId) (h : m ≠ busOf b) :
    (s.enterCool b k).engine m = s.engine m := by
  unfold State.enterCool
  try dsimp only
  (repeat' split) <;> simp [State.modifyEngine_engine_ne, h]

@[simp] theorem State.drainDone_bay_ne (s : State) (b : BayId) (c : BayId) (h : c ≠ b) :
    (s.drainDone b).bay c = s.bay c := by
  unfold State.drainDone
  try dsimp only
  (repeat' split) <;> simp [State.modifyBay_bay_ne, h]

@[simp] theorem State.drainDone_engine_ne (s : State) (b : BayId) (m : BusId) (h : m ≠ busOf b) :
    (s.drainDone b).engine m = s.engine m := by
  unfold State.drainDone
  try dsimp only
  (repeat' split) <;> simp [State.modifyEngine_engine_ne, h]

@[simp] theorem State.drainStep_bay_ne (s : State) (b : BayId) (st : SeqStep) (c : BayId) (h : c ≠ b) :
    (s.drainStep b st).bay c = s.bay c := by
  unfold State.drainStep
  try dsimp only
  (repeat' split) <;> simp [State.modifyBay_bay_ne, h]

@[simp] theorem State.drainStep_engine_ne (s : State) (b : BayId) (st : SeqStep) (m : BusId) (h : m ≠ busOf b) :
    (s.drainStep b st).engine m = s.engine m := by
  unfold State.drainStep
  try dsimp only
  (repeat' split) <;> simp [State.modifyEngine_engine_ne, h]

@[simp] theorem State.drainCompute_bay_ne (fuel : Nat) (s : State) (b : BayId) (c : BayId) (h : c ≠ b) :
    (State.drainCompute fuel s b).bay c = s.bay c := by
  induction fuel generalizing s with
  | zero =>
    unfold State.drainCompute
    dsimp only
    (repeat' split) <;> simp [h]
  | succ k ih =>
    unfold State.drainCompute
    dsimp only
    (repeat' split) <;> simp [h, ih]

@[simp] theorem State.drainCompute_engine_ne (fuel : Nat) (s : State) (b : BayId) (m : BusId) (h : m ≠ busOf b) :
    (State.drainCompute fuel s b).engine m = s.engine m := by
  induction fuel generalizing s with
  | zero =>
    unfold State.drainCompute
    dsimp only
    (repeat' split) <;> simp [h]
  | succ k ih =>
    unfold State.drainCompute
    dsimp only
    (repeat' split) <;> simp [h, ih]

@[simp] theorem State.drainWaitEnd_bay_ne (s : State) (b : BayId) (st : SeqStep) (c : BayId) (h : c ≠ b) :
    (s.drainWaitEnd b st).bay c = s.bay c := by
  unfold State.drainWaitEnd
  try dsimp only
  (repeat' split) <;> simp [State.modifyBay_bay_ne, h]

@[simp] theorem State.drainWaitEnd_engine_ne (s : State) (b : BayId) (st : SeqStep) (m : BusId) (h : m ≠ busOf b) :
    (s.drainWaitEnd b st).engine m = s.engine m := by
  unfold State.drainWaitEnd
  try dsimp only
  (repeat' split) <;> simp [State.modifyEngine_engine_ne, h]

@[simp] theorem State.powerDown_bay_ne (s : State) (b : BayId) (c : BayId) (h : c ≠ b) :
    (s.powerDown b).bay c = s.bay c := by
  unfold State.powerDown
  try dsimp only
  (repeat' split) <;> simp [State.modifyBay_bay_ne, h]

@[simp] theorem State.powerDown_engine_ne (s : State) (b : BayId) (m : BusId) (h : m ≠ busOf b) :
    (s.powerDown b).engine m = s.engine m := by
  unfold State.powerDown
  try dsimp only
  (repeat' split) <;> simp [State.modifyEngine_engine_ne, h]

@[simp] theorem State.takeFault_bay_ne (s : State) (b : BayId) (k : FaultKind) (c : BayId) (h : c ≠ b) :
    (s.takeFault b k).bay c = s.bay c := by
  unfold State.takeFault
  try dsimp only
  (repeat' split) <;> simp [State.modifyBay_bay_ne, h]

@[simp] theorem State.takeFault_engine_ne (s : State) (b : BayId) (k : FaultKind) (m : BusId) (h : m ≠ busOf b) :
    (s.takeFault b k).engine m = s.engine m := by
  unfold State.takeFault
  try dsimp only
  (repeat' split) <;> simp [State.modifyEngine_engine_ne, h]

@[simp] theorem State.faultCleared_bay_ne (s : State) (b : BayId) (c : BayId) (h : c ≠ b) :
    (s.faultCleared b).bay c = s.bay c := by
  unfold State.faultCleared
  try dsimp only
  (repeat' split) <;> simp [State.modifyBay_bay_ne, h]

@[simp] theorem State.faultCleared_engine_ne (s : State) (b : BayId) (m : BusId) (h : m ≠ busOf b) :
    (s.faultCleared b).engine m = s.engine m := by
  unfold State.faultCleared
  try dsimp only
  (repeat' split) <;> simp [State.modifyEngine_engine_ne, h]

@[simp] theorem State.judgeLive_bay_ne (s : State) (b : BayId) (p : Bool) (c : BayId) (h : c ≠ b) :
    (s.judgeLive b p).bay c = s.bay c := by
  unfold State.judgeLive
  try dsimp only
  (repeat' split) <;> simp [State.modifyBay_bay_ne, h]

@[simp] theorem State.judgeLive_engine_ne (s : State) (b : BayId) (p : Bool) (m : BusId) (h : m ≠ busOf b) :
    (s.judgeLive b p).engine m = s.engine m := by
  unfold State.judgeLive
  try dsimp only
  (repeat' split) <;> simp [State.modifyEngine_engine_ne, h]

@[simp] theorem State.sequencerTest_bay_ne (s : State) (b : BayId) (c : BayId) (h : c ≠ b) :
    (s.sequencerTest b).bay c = s.bay c := by
  unfold State.sequencerTest
  try dsimp only
  (repeat' split) <;> simp [State.modifyBay_bay_ne, h]

@[simp] theorem State.sequencerTest_engine_ne (s : State) (b : BayId) (m : BusId) (h : m ≠ busOf b) :
    (s.sequencerTest b).engine m = s.engine m := by
  unfold State.sequencerTest
  try dsimp only
  (repeat' split) <;> simp [State.modifyEngine_engine_ne, h]

@[simp] theorem State.awaitedTest_bay_ne (s : State) (b : BayId) (c : BayId) (h : c ≠ b) :
    (s.awaitedTest b).bay c = s.bay c := by
  unfold State.awaitedTest
  try dsimp only
  (repeat' split) <;> simp [State.modifyBay_bay_ne, h]

@[simp] theorem State.awaitedTest_engine_ne (s : State) (b : BayId) (m : BusId) (h : m ≠ busOf b) :
    (s.awaitedTest b).engine m = s.engine m := by
  unfold State.awaitedTest
  try dsimp only
  (repeat' split) <;> simp [State.modifyEngine_engine_ne, h]

@[simp] theorem State.dropConfirming_bay_ne (s : State) (b : BayId) (c : BayId) :
    (s.dropConfirming b).bay c = s.bay c := by
  unfold State.dropConfirming
  try dsimp only
  (repeat' split) <;> simp

@[simp] theorem State.dropConfirming_engine_ne (s : State) (b : BayId) (m : BusId) (h : m ≠ busOf b) :
    (s.dropConfirming b).engine m = s.engine m := by
  unfold State.dropConfirming
  try dsimp only
  (repeat' split) <;> simp [State.modifyEngine_engine_ne, h]

@[simp] theorem State.startCandidate_bay_ne (s : State) (b : BayId) (v : View) (c : BayId) (h : c ≠ b) :
    (s.startCandidate b v).bay c = s.bay c := by
  unfold State.startCandidate
  try dsimp only
  (repeat' split) <;> simp [State.modifyBay_bay_ne, h]

@[simp] theorem State.startCandidate_engine_ne (s : State) (b : BayId) (v : View) (m : BusId) (h : m ≠ busOf b) :
    (s.startCandidate b v).engine m = s.engine m := by
  unfold State.startCandidate
  try dsimp only
  (repeat' split) <;> simp [State.modifyEngine_engine_ne, h]

@[simp] theorem State.discardCandidate_bay_ne (s : State) (b : BayId) (c : BayId) (h : c ≠ b) :
    (s.discardCandidate b).bay c = s.bay c := by
  unfold State.discardCandidate
  try dsimp only
  (repeat' split) <;> simp [State.modifyBay_bay_ne, h]

@[simp] theorem State.discardCandidate_engine_ne (s : State) (b : BayId) (m : BusId) (h : m ≠ busOf b) :
    (s.discardCandidate b).engine m = s.engine m := by
  unfold State.discardCandidate
  try dsimp only
  (repeat' split) <;> simp [State.modifyEngine_engine_ne, h]

@[simp] theorem State.automaticOff_bay_ne (s : State) (b : BayId) (e : Bool) (c : BayId) (h : c ≠ b) :
    (s.automaticOff b e).bay c = s.bay c := by
  unfold State.automaticOff
  try dsimp only
  (repeat' split) <;> simp [State.modifyBay_bay_ne, h]

@[simp] theorem State.automaticOff_engine_ne (s : State) (b : BayId) (e : Bool) (m : BusId) (h : m ≠ busOf b) :
    (s.automaticOff b e).engine m = s.engine m := by
  unfold State.automaticOff
  try dsimp only
  (repeat' split) <;> simp [State.modifyEngine_engine_ne, h]

@[simp] theorem State.presenceHandOff_bay_ne (s : State) (b : BayId) (c : BayId) (h : c ≠ b) :
    (s.presenceHandOff b).bay c = s.bay c := by
  unfold State.presenceHandOff
  try dsimp only
  (repeat' split) <;> simp [State.modifyBay_bay_ne, h]

@[simp] theorem State.presenceHandOff_engine_ne (s : State) (b : BayId) (m : BusId) (h : m ≠ busOf b) :
    (s.presenceHandOff b).engine m = s.engine m := by
  unfold State.presenceHandOff
  try dsimp only
  (repeat' split) <;> simp [State.modifyEngine_engine_ne, h]

@[simp] theorem State.latchHandOff_bay_ne (s : State) (b : BayId) (c : BayId) (h : c ≠ b) :
    (s.latchHandOff b).bay c = s.bay c := by
  unfold State.latchHandOff
  try dsimp only
  (repeat' split) <;> simp [State.modifyBay_bay_ne, h]

@[simp] theorem State.latchHandOff_engine_ne (s : State) (b : BayId) (m : BusId) (h : m ≠ busOf b) :
    (s.latchHandOff b).engine m = s.engine m := by
  unfold State.latchHandOff
  try dsimp only
  (repeat' split) <;> simp [State.modifyEngine_engine_ne, h]

@[simp] theorem State.acceptanceRecords_bay_ne (s : State) (b : BayId) (a : Accepted) (c : BayId) :
    (s.acceptanceRecords b a).bay c = s.bay c := by
  unfold State.acceptanceRecords
  try dsimp only
  (repeat' split) <;> simp

@[simp] theorem State.acceptanceRecords_engine_ne (s : State) (b : BayId) (a : Accepted) (m : BusId) (h : m ≠ busOf b) :
    (s.acceptanceRecords b a).engine m = s.engine m := by
  unfold State.acceptanceRecords
  try dsimp only
  (repeat' split) <;> simp [State.modifyEngine_engine_ne, h]

@[simp] theorem State.acceptView_bay_ne (s : State) (b : BayId) (v : View) (l : Half) (c : BayId) (h : c ≠ b) :
    (s.acceptView b v l).bay c = s.bay c := by
  unfold State.acceptView
  try dsimp only
  (repeat' split) <;> simp [State.modifyBay_bay_ne, h]

@[simp] theorem State.acceptView_engine_ne (s : State) (b : BayId) (v : View) (l : Half) (m : BusId) (h : m ≠ busOf b) :
    (s.acceptView b v l).engine m = s.engine m := by
  unfold State.acceptView
  try dsimp only
  (repeat' split) <;> simp [State.modifyEngine_engine_ne, h]

@[simp] theorem State.debounce_bay_ne (s : State) (b : BayId) (v : View) (l : Half) (k : Bool) (c : BayId) (h : c ≠ b) :
    (s.debounce b v l k).bay c = s.bay c := by
  unfold State.debounce
  try dsimp only
  (repeat' split) <;> simp [State.modifyBay_bay_ne, h]

@[simp] theorem State.debounce_engine_ne (s : State) (b : BayId) (v : View) (l : Half) (k : Bool) (m : BusId) (h : m ≠ busOf b) :
    (s.debounce b v l k).engine m = s.engine m := by
  unfold State.debounce
  try dsimp only
  (repeat' split) <;> simp [State.modifyEngine_engine_ne, h]

@[simp] theorem State.sampleRead_bay_ne (s : State) (b : BayId) (l : Half) (c : BayId) (h : c ≠ b) :
    (s.sampleRead b l).bay c = s.bay c := by
  unfold State.sampleRead
  try dsimp only
  (repeat' split) <;> simp [State.modifyBay_bay_ne, h]

@[simp] theorem State.sampleRead_engine_ne (s : State) (b : BayId) (l : Half) (m : BusId) (h : m ≠ busOf b) :
    (s.sampleRead b l).engine m = s.engine m := by
  unfold State.sampleRead
  try dsimp only
  (repeat' split) <;> simp [State.modifyEngine_engine_ne, h]

@[simp] theorem State.answerWaiters_bay_ne (s : State) (b : BayId) (w : Waiters) (c : BayId) (h : c ≠ b) :
    (s.answerWaiters b w).bay c = s.bay c := by
  unfold State.answerWaiters
  try dsimp only
  (repeat' split) <;> simp [State.modifyBay_bay_ne, h]

@[simp] theorem State.answerWaiters_engine_ne (s : State) (b : BayId) (w : Waiters) (m : BusId) (h : m ≠ busOf b) :
    (s.answerWaiters b w).engine m = s.engine m := by
  unfold State.answerWaiters
  try dsimp only
  (repeat' split) <;> simp [State.modifyEngine_engine_ne, h]

@[simp] theorem State.readDone_bay_ne (s : State) (b : BayId) (w : Waiters) (l o d : Half) (c : BayId) (h : c ≠ b) :
    (s.readDone b w l o d).bay c = s.bay c := by
  unfold State.readDone
  try dsimp only
  (repeat' split) <;> simp [State.modifyBay_bay_ne, h]

@[simp] theorem State.readDone_engine_ne (s : State) (b : BayId) (w : Waiters) (l o d : Half) (m : BusId) (h : m ≠ busOf b) :
    (s.readDone b w l o d).engine m = s.engine m := by
  unfold State.readDone
  try dsimp only
  (repeat' split) <;> simp [State.modifyEngine_engine_ne, h]

@[simp] theorem State.confirmCandidate_bay_ne (s : State) (b : BayId) (c : BayId) (h : c ≠ b) :
    (s.confirmCandidate b).bay c = s.bay c := by
  unfold State.confirmCandidate
  try dsimp only
  (repeat' split) <;> simp [State.modifyBay_bay_ne, h]

@[simp] theorem State.confirmCandidate_engine_ne (s : State) (b : BayId) (m : BusId) (h : m ≠ busOf b) :
    (s.confirmCandidate b).engine m = s.engine m := by
  unfold State.confirmCandidate
  try dsimp only
  (repeat' split) <;> simp [State.modifyEngine_engine_ne, h]

@[simp] theorem State.probeFound_bay_ne (s : State) (b : BayId) (c : BayId) (h : c ≠ b) :
    (s.probeFound b).bay c = s.bay c := by
  unfold State.probeFound
  try dsimp only
  (repeat' split) <;> simp [State.modifyBay_bay_ne, h]

@[simp] theorem State.probeFound_engine_ne (s : State) (b : BayId) (m : BusId) (h : m ≠ busOf b) :
    (s.probeFound b).engine m = s.engine m := by
  unfold State.probeFound
  try dsimp only
  (repeat' split) <;> simp [State.modifyEngine_engine_ne, h]

@[simp] theorem State.probeNotFound_bay_ne (s : State) (b : BayId) (c : BayId) (h : c ≠ b) :
    (s.probeNotFound b).bay c = s.bay c := by
  unfold State.probeNotFound
  try dsimp only
  (repeat' split) <;> simp [State.modifyBay_bay_ne, h]

@[simp] theorem State.probeNotFound_engine_ne (s : State) (b : BayId) (m : BusId) (h : m ≠ busOf b) :
    (s.probeNotFound b).engine m = s.engine m := by
  unfold State.probeNotFound
  try dsimp only
  (repeat' split) <;> simp [State.modifyEngine_engine_ne, h]

@[simp] theorem State.setupFailed_bay_ne (s : State) (b : BayId) (c : BayId) (h : c ≠ b) :
    (s.setupFailed b).bay c = s.bay c := by
  unfold State.setupFailed
  try dsimp only
  (repeat' split) <;> simp [State.modifyBay_bay_ne, h]

@[simp] theorem State.setupFailed_engine_ne (s : State) (b : BayId) (m : BusId) (h : m ≠ busOf b) :
    (s.setupFailed b).engine m = s.engine m := by
  unfold State.setupFailed
  try dsimp only
  (repeat' split) <;> simp [State.modifyEngine_engine_ne, h]

@[simp] theorem State.bindChecks_bay_ne (s : State) (b : BayId) (c : BayId) (h : c ≠ b) :
    (s.bindChecks b).bay c = s.bay c := by
  unfold State.bindChecks
  try dsimp only
  (repeat' split) <;> simp [State.modifyBay_bay_ne, h]

@[simp] theorem State.bindChecks_engine_ne (s : State) (b : BayId) (m : BusId) (h : m ≠ busOf b) :
    (s.bindChecks b).engine m = s.engine m := by
  unfold State.bindChecks
  try dsimp only
  (repeat' split) <;> simp [State.modifyEngine_engine_ne, h]

@[simp] theorem State.huntBound_bay_ne (s : State) (b : BayId) (c : BayId) :
    (s.huntBound b).bay c = s.bay c := by
  unfold State.huntBound
  try dsimp only
  (repeat' split) <;> simp

@[simp] theorem State.huntBound_engine_ne (s : State) (b : BayId) (m : BusId) (h : m ≠ busOf b) :
    (s.huntBound b).engine m = s.engine m := by
  unfold State.huntBound
  try dsimp only
  (repeat' split) <;> simp [State.modifyEngine_engine_ne, h]

@[simp] theorem State.identJudged_bay_ne (s : State) (b : BayId) (i : Byte) (c : BayId) (h : c ≠ b) :
    (s.identJudged b i).bay c = s.bay c := by
  unfold State.identJudged
  try dsimp only
  (repeat' split) <;> simp [State.modifyBay_bay_ne, h]

@[simp] theorem State.identJudged_engine_ne (s : State) (b : BayId) (i : Byte) (m : BusId) (h : m ≠ busOf b) :
    (s.identJudged b i).engine m = s.engine m := by
  unfold State.identJudged
  try dsimp only
  (repeat' split) <;> simp [State.modifyEngine_engine_ne, h]

@[simp] theorem State.adopt_bay_ne (s : State) (b : BayId) (r : Regs) (d : Dirs) (k : Decided) (c : BayId) (h : c ≠ b) :
    (s.adopt b r d k).bay c = s.bay c := by
  unfold State.adopt
  try dsimp only
  (repeat' split) <;> simp [State.modifyBay_bay_ne, h]

@[simp] theorem State.adopt_engine_ne (s : State) (b : BayId) (r : Regs) (d : Dirs) (k : Decided) (m : BusId) (h : m ≠ busOf b) :
    (s.adopt b r d k).engine m = s.engine m := by
  unfold State.adopt
  try dsimp only
  (repeat' split) <;> simp [State.modifyEngine_engine_ne, h]

@[simp] theorem State.forceSafe_bay_ne (s : State) (b : BayId) (r : Regs) (d : Dirs) (c : BayId) (h : c ≠ b) :
    (s.forceSafe b r d).bay c = s.bay c := by
  unfold State.forceSafe
  try dsimp only
  (repeat' split) <;> simp [State.modifyBay_bay_ne, h]

@[simp] theorem State.forceSafe_engine_ne (s : State) (b : BayId) (r : Regs) (d : Dirs) (m : BusId) (h : m ≠ busOf b) :
    (s.forceSafe b r d).engine m = s.engine m := by
  unfold State.forceSafe
  try dsimp only
  (repeat' split) <;> simp [State.modifyEngine_engine_ne, h]

@[simp] theorem State.readbackJudged_bay_ne (s : State) (b : BayId) (r : Regs) (c : BayId) (h : c ≠ b) :
    (s.readbackJudged b r).bay c = s.bay c := by
  unfold State.readbackJudged
  try dsimp only
  (repeat' split) <;> simp [State.modifyBay_bay_ne, h]

@[simp] theorem State.readbackJudged_engine_ne (s : State) (b : BayId) (r : Regs) (m : BusId) (h : m ≠ busOf b) :
    (s.readbackJudged b r).engine m = s.engine m := by
  unfold State.readbackJudged
  try dsimp only
  (repeat' split) <;> simp [State.modifyEngine_engine_ne, h]

@[simp] theorem State.forceSafeDone_bay_ne (s : State) (b : BayId) (k : Option Written) (c : BayId) (h : c ≠ b) :
    (s.forceSafeDone b k).bay c = s.bay c := by
  unfold State.forceSafeDone
  try dsimp only
  (repeat' split) <;> simp [State.modifyBay_bay_ne, h]

@[simp] theorem State.forceSafeDone_engine_ne (s : State) (b : BayId) (k : Option Written) (m : BusId) (h : m ≠ busOf b) :
    (s.forceSafeDone b k).engine m = s.engine m := by
  unfold State.forceSafeDone
  try dsimp only
  (repeat' split) <;> simp [State.modifyEngine_engine_ne, h]

@[simp] theorem State.seedInputs_bay_ne (s : State) (b : BayId) (l : Half) (d : Dirs) (c : BayId) (h : c ≠ b) :
    (s.seedInputs b l d).bay c = s.bay c := by
  unfold State.seedInputs
  try dsimp only
  (repeat' split) <;> simp [State.modifyBay_bay_ne, h]

@[simp] theorem State.seedInputs_engine_ne (s : State) (b : BayId) (l : Half) (d : Dirs) (m : BusId) (h : m ≠ busOf b) :
    (s.seedInputs b l d).engine m = s.engine m := by
  unfold State.seedInputs
  try dsimp only
  (repeat' split) <;> simp [State.modifyEngine_engine_ne, h]

@[simp] theorem State.bindPower_bay_ne (s : State) (b : BayId) (k : Decided) (c : BayId) (h : c ≠ b) :
    (s.bindPower b k).bay c = s.bay c := by
  unfold State.bindPower
  try dsimp only
  (repeat' split) <;> simp [State.modifyBay_bay_ne, h]

@[simp] theorem State.bindPower_engine_ne (s : State) (b : BayId) (k : Decided) (m : BusId) (h : m ≠ busOf b) :
    (s.bindPower b k).engine m = s.engine m := by
  unfold State.bindPower
  try dsimp only
  (repeat' split) <;> simp [State.modifyEngine_engine_ne, h]

@[simp] theorem State.bind_bay_ne (s : State) (b : BayId) (l : Half) (k : Chain) (c : BayId) (h : c ≠ b) :
    (s.bind b l k).bay c = s.bay c := by
  unfold State.bind
  try dsimp only
  (repeat' split) <;> simp [State.modifyBay_bay_ne, h]

@[simp] theorem State.bind_engine_ne (s : State) (b : BayId) (l : Half) (k : Chain) (m : BusId) (h : m ≠ busOf b) :
    (s.bind b l k).engine m = s.engine m := by
  unfold State.bind
  try dsimp only
  (repeat' split) <;> simp [State.modifyEngine_engine_ne, h]

@[simp] theorem State.refuseCommand_bay_ne (s : State) (b : BayId) (r : CommandResult) (t : Byte) (c : BayId) (h : c ≠ b) :
    (s.refuseCommand b r t).bay c = s.bay c := by
  unfold State.refuseCommand
  try dsimp only
  (repeat' split) <;> simp [State.modifyBay_bay_ne, h]

@[simp] theorem State.refuseCommand_engine_ne (s : State) (b : BayId) (r : CommandResult) (t : Byte) (m : BusId) (h : m ≠ busOf b) :
    (s.refuseCommand b r t).engine m = s.engine m := by
  unfold State.refuseCommand
  try dsimp only
  (repeat' split) <;> simp [State.modifyEngine_engine_ne, h]

@[simp] theorem State.takeSlot_bay_ne (s : State) (b : BayId) (k : BayCommand) (t : Byte) (c : BayId) (h : c ≠ b) :
    (s.takeSlot b k t).bay c = s.bay c := by
  unfold State.takeSlot
  try dsimp only
  (repeat' split) <;> simp [State.modifyBay_bay_ne, h]

@[simp] theorem State.takeSlot_engine_ne (s : State) (b : BayId) (k : BayCommand) (t : Byte) (m : BusId) (h : m ≠ busOf b) :
    (s.takeSlot b k t).engine m = s.engine m := by
  unfold State.takeSlot
  try dsimp only
  (repeat' split) <;> simp [State.modifyEngine_engine_ne, h]

@[simp] theorem State.await_bay_ne (s : State) (b : BayId) (g : Option Half) (c : BayId) (h : c ≠ b) :
    (s.await b g).bay c = s.bay c := by
  unfold State.await
  try dsimp only
  (repeat' split) <;> simp [State.modifyBay_bay_ne, h]

@[simp] theorem State.await_engine_ne (s : State) (b : BayId) (g : Option Half) (m : BusId) (h : m ≠ busOf b) :
    (s.await b g).engine m = s.engine m := by
  unfold State.await
  try dsimp only
  (repeat' split) <;> simp [State.modifyEngine_engine_ne, h]

@[simp] theorem State.outputEffect_bay_ne (s : State) (b : BayId) (f : Image → Image) (c : BayId) (h : c ≠ b) :
    (s.outputEffect b f).bay c = s.bay c := by
  unfold State.outputEffect
  try dsimp only
  (repeat' split) <;> simp [State.modifyBay_bay_ne, h]

@[simp] theorem State.outputEffect_engine_ne (s : State) (b : BayId) (f : Image → Image) (m : BusId) (h : m ≠ busOf b) :
    (s.outputEffect b f).engine m = s.engine m := by
  unfold State.outputEffect
  try dsimp only
  (repeat' split) <;> simp [State.modifyEngine_engine_ne, h]

@[simp] theorem State.powerOnEffect_bay_ne (s : State) (b : BayId) (c : BayId) (h : c ≠ b) :
    (s.powerOnEffect b).bay c = s.bay c := by
  unfold State.powerOnEffect
  try dsimp only
  (repeat' split) <;> simp [State.modifyBay_bay_ne, h]

@[simp] theorem State.powerOnEffect_engine_ne (s : State) (b : BayId) (m : BusId) (h : m ≠ busOf b) :
    (s.powerOnEffect b).engine m = s.engine m := by
  unfold State.powerOnEffect
  try dsimp only
  (repeat' split) <;> simp [State.modifyEngine_engine_ne, h]

@[simp] theorem State.overtakePowerOn_bay_ne (s : State) (b : BayId) (c : BayId) (h : c ≠ b) :
    (s.overtakePowerOn b).bay c = s.bay c := by
  unfold State.overtakePowerOn
  try dsimp only
  (repeat' split) <;> simp [State.modifyBay_bay_ne, h]

@[simp] theorem State.overtakePowerOn_engine_ne (s : State) (b : BayId) (m : BusId) (h : m ≠ busOf b) :
    (s.overtakePowerOn b).engine m = s.engine m := by
  unfold State.overtakePowerOn
  try dsimp only
  (repeat' split) <;> simp [State.modifyEngine_engine_ne, h]

@[simp] theorem State.powerOffEffect_bay_ne (s : State) (b : BayId) (k : Bool) (c : BayId) (h : c ≠ b) :
    (s.powerOffEffect b k).bay c = s.bay c := by
  unfold State.powerOffEffect
  try dsimp only
  (repeat' split) <;> simp [State.modifyBay_bay_ne, h]

@[simp] theorem State.powerOffEffect_engine_ne (s : State) (b : BayId) (k : Bool) (m : BusId) (h : m ≠ busOf b) :
    (s.powerOffEffect b k).engine m = s.engine m := by
  unfold State.powerOffEffect
  try dsimp only
  (repeat' split) <;> simp [State.modifyEngine_engine_ne, h]

@[simp] theorem State.refreshEffect_bay_ne (s : State) (b : BayId) (c : BayId) :
    (s.refreshEffect b).bay c = s.bay c := by
  unfold State.refreshEffect
  try dsimp only
  (repeat' split) <;> simp

@[simp] theorem State.refreshEffect_engine_ne (s : State) (b : BayId) (m : BusId) (h : m ≠ busOf b) :
    (s.refreshEffect b).engine m = s.engine m := by
  unfold State.refreshEffect
  try dsimp only
  (repeat' split) <;> simp [State.modifyEngine_engine_ne, h]

@[simp] theorem State.firstEffect_bay_ne (s : State) (b : BayId) (k : BayCommand) (a : CommandArgs) (g : Bool) (c : BayId) (h : c ≠ b) :
    (s.firstEffect b k a g).bay c = s.bay c := by
  unfold State.firstEffect
  try dsimp only
  (repeat' split) <;> simp [State.modifyBay_bay_ne, h]

@[simp] theorem State.firstEffect_engine_ne (s : State) (b : BayId) (k : BayCommand) (a : CommandArgs) (g : Bool) (m : BusId) (h : m ≠ busOf b) :
    (s.firstEffect b k a g).engine m = s.engine m := by
  unfold State.firstEffect
  try dsimp only
  (repeat' split) <;> simp [State.modifyEngine_engine_ne, h]

@[simp] theorem State.acceptCommand_bay_ne (s : State) (b : BayId) (k : BayCommand) (t : Byte) (a : CommandArgs) (c : BayId) (h : c ≠ b) :
    (s.acceptCommand b k t a).bay c = s.bay c := by
  unfold State.acceptCommand
  try dsimp only
  (repeat' split) <;> simp [State.modifyBay_bay_ne, h]

@[simp] theorem State.acceptCommand_engine_ne (s : State) (b : BayId) (k : BayCommand) (t : Byte) (a : CommandArgs) (m : BusId) (h : m ≠ busOf b) :
    (s.acceptCommand b k t a).engine m = s.engine m := by
  unfold State.acceptCommand
  try dsimp only
  (repeat' split) <;> simp [State.modifyEngine_engine_ne, h]

@[simp] theorem State.takeCommand_bay_ne (s : State) (b : BayId) (k : BayCommand) (t : Byte) (a : CommandArgs) (c : BayId) (h : c ≠ b) :
    (s.takeCommand b k t a).bay c = s.bay c := by
  unfold State.takeCommand
  try dsimp only
  (repeat' split) <;> simp [State.modifyBay_bay_ne, h]

@[simp] theorem State.takeCommand_engine_ne (s : State) (b : BayId) (k : BayCommand) (t : Byte) (a : CommandArgs) (m : BusId) (h : m ≠ busOf b) :
    (s.takeCommand b k t a).engine m = s.engine m := by
  unfold State.takeCommand
  try dsimp only
  (repeat' split) <;> simp [State.modifyEngine_engine_ne, h]

@[simp] theorem State.takeCommandCode_bay_ne (s : State) (b : BayId) (k : BitVec 4) (t : Byte) (a : CommandArgs) (c : BayId) (h : c ≠ b) :
    (s.takeCommandCode b k t a).bay c = s.bay c := by
  unfold State.takeCommandCode
  try dsimp only
  (repeat' split) <;> simp [State.modifyBay_bay_ne, h]

@[simp] theorem State.takeCommandCode_engine_ne (s : State) (b : BayId) (k : BitVec 4) (t : Byte) (a : CommandArgs) (m : BusId) (h : m ≠ busOf b) :
    (s.takeCommandCode b k t a).engine m = s.engine m := by
  unfold State.takeCommandCode
  try dsimp only
  (repeat' split) <;> simp [State.modifyEngine_engine_ne, h]

@[simp] theorem State.ignoreCurrent_bay_ne (s : State) (b : BayId) (c : BayId) :
    (s.ignoreCurrent b).bay c = s.bay c := by
  unfold State.ignoreCurrent
  try dsimp only
  (repeat' split) <;> simp

@[simp] theorem State.ignoreCurrent_engine_ne (s : State) (b : BayId) (m : BusId) (h : m ≠ busOf b) :
    (s.ignoreCurrent b).engine m = s.engine m := by
  unfold State.ignoreCurrent
  try dsimp only
  (repeat' split) <;> simp [State.modifyEngine_engine_ne, h]

@[simp] theorem State.release_bay_ne (s : State) (b : BayId) (c : BayId) (h : c ≠ b) :
    (s.release b).bay c = s.bay c := by
  unfold State.release
  try dsimp only
  (repeat' split) <;> simp [State.modifyBay_bay_ne, h]

@[simp] theorem State.release_engine_ne (s : State) (b : BayId) (m : BusId) (h : m ≠ busOf b) :
    (s.release b).engine m = s.engine m := by
  unfold State.release
  try dsimp only
  (repeat' split) <;> simp [State.modifyEngine_engine_ne, h]

@[simp] theorem State.correctIndicator_bay_ne (s : State) (b : BayId) (c : BayId) (h : c ≠ b) :
    (s.correctIndicator b).bay c = s.bay c := by
  unfold State.correctIndicator
  try dsimp only
  (repeat' split) <;> simp [State.modifyBay_bay_ne, h]

@[simp] theorem State.correctIndicator_engine_ne (s : State) (b : BayId) (m : BusId) (h : m ≠ busOf b) :
    (s.correctIndicator b).engine m = s.engine m := by
  unfold State.correctIndicator
  try dsimp only
  (repeat' split) <;> simp [State.modifyEngine_engine_ne, h]

@[simp] theorem State.writeBayConfig_bay_ne (s : State) (b : BayId) (w : Word) (c : BayId) (h : c ≠ b) :
    (s.writeBayConfig b w).bay c = s.bay c := by
  unfold State.writeBayConfig
  try dsimp only
  (repeat' split) <;> simp [State.modifyBay_bay_ne, h]

@[simp] theorem State.writeBayConfig_engine_ne (s : State) (b : BayId) (w : Word) (m : BusId) (h : m ≠ busOf b) :
    (s.writeBayConfig b w).engine m = s.engine m := by
  unfold State.writeBayConfig
  try dsimp only
  (repeat' split) <;> simp [State.modifyEngine_engine_ne, h]

end Sys2Proof.Machine
end

