-- ==== Sys2Proof/Laws/Events.lean ====
section
/-! SUPPORT. The Event Queue: what an enqueue and a take do, and that they keep its form. -/

namespace Sys2Proof.Machine

/-! ## The SEQ of an append (R146) -/

/-- The search finds a free value, or every value it has passed is used. -/
theorem freshSeq_mem_or (used : List Half) : ∀ (n : Nat) (c : Half),
    freshSeq used n c ∉ used ∨ freshSeq used n c = c + BitVec.ofNat 16 n ∧ ∀ j < n, c + BitVec.ofNat 16 j ∈ used
  | 0, c => by simp [freshSeq]
  | n + 1, c => by
    by_cases h : c ∈ used
    · have hstep : ∀ i, (c + 1 : Half) + BitVec.ofNat 16 i = c + BitVec.ofNat 16 (i + 1) := fun i => by
        rw [BitVec.add_assoc, BitVec.add_comm 1, BitVec.ofNat_add]
        rfl
      rcases freshSeq_mem_or used n (c + 1) with hn | ⟨he, hu⟩
      · exact .inl (by rw [freshSeq, if_pos h]; exact hn)
      · refine .inr ⟨by rw [freshSeq, if_pos h, he, hstep], fun j hj => ?_⟩
        cases j with
        | zero => simpa using h
        | succ i => rw [← hstep]; exact hu i (Nat.lt_of_succ_lt_succ hj)
    · exact .inl (by rw [freshSeq, if_neg h]; exact h)

/-- Fewer than 32 SEQs are in use, so the search of an append finds a free one (R146). -/
theorem freshSeq_not_mem (used : List Half) (c : Half) (h : used.length < 32) : freshSeq used 32 c ∉ used := by
  rcases freshSeq_mem_or used 32 c with hn | ⟨_, hu⟩
  · exact hn
  · exfalso
    have hsub : ((List.range 32).map fun j => c + BitVec.ofNat 16 j) ⊆ used := by
      intro x hx
      obtain ⟨j, hj, rfl⟩ := List.mem_map.mp hx
      exact hu j (List.mem_range.mp hj)
    have hnd : ((List.range 32).map fun j => c + BitVec.ofNat 16 j).Nodup := by
      refine List.Nodup.map_on ?_ List.nodup_range
      intro i hi j hj hij
      have hi' := List.mem_range.mp hi
      have hj' := List.mem_range.mp hj
      have hij' : (BitVec.ofNat 16 i).toNat = (BitVec.ofNat 16 j).toNat := by
        rw [BitVec.add_right_inj] at hij; rw [hij]
      simp only [BitVec.toNat_ofNat] at hij'
      omega
    have := (List.subperm_of_subset hnd hsub).length_le
    simp at this
    omega

/-! ## Enqueue (R147 to R149) -/

/-- The record that an append makes (R148). -/
def EventQueue.appended (q : EventQueue) (tag : Option LineId) (now : Word) (src : Source) (d : Detail) : Record :=
  { seq := freshSeq (q.records.map (·.seq)) 32 q.seqCounter, source := src, line := tag, time := now, detail := d,
    count := 1, missed := if q.missed[src.index] = 0 then none else some q.missed[src.index] }

/-- An enqueue that finds a record to coalesce into (R147). -/
theorem EventQueue.enqueue_coalesce (q : EventQueue) (tag : Option LineId) (now : Word) (src : Source) (d : Detail)
    (h : q.records.any (fun r => r.absorbs src d) = true) :
    q.enqueue tag now src d =
      { q with records := q.records.map fun r =>
          if r.absorbs src d then { r with detail := d, time := now, count := satInc r.count } else r } := by
  rw [EventQueue.enqueue, if_pos h]

/-- An enqueue that appends (R148). -/
theorem EventQueue.enqueue_append (q : EventQueue) (tag : Option LineId) (now : Word) (src : Source) (d : Detail)
    (h : q.records.any (fun r => r.absorbs src d) = false) (hl : q.records.length < 32) :
    q.enqueue tag now src d =
      { q with records := q.records ++ [q.appended tag now src d],
               seqCounter := (q.appended tag now src d).seq + 1, missed := q.missed.set src.index 0 } := by
  rw [EventQueue.enqueue, if_neg (by simp [h]), if_pos hl]
  rfl

/-- An enqueue that drops (R149). -/
theorem EventQueue.enqueue_drop (q : EventQueue) (tag : Option LineId) (now : Word) (src : Source) (d : Detail)
    (h : q.records.any (fun r => r.absorbs src d) = false) (hl : ¬ q.records.length < 32) :
    q.enqueue tag now src d =
      { q with missed := q.missed.set src.index (satInc q.missed[src.index]), overflow := true } := by
  rw [EventQueue.enqueue, if_neg (by simp [h]), if_neg hl]

/-- What coalescing reads of a record: source and kind are as they were, and the SEQ is. -/
theorem Record.coalesced_kind (r : Record) (src : Source) (d : Detail) (now : Word) :
    let r' := if r.absorbs src d then { r with detail := d, time := now, count := satInc r.count } else r
    r'.source = r.source ∧ r'.detail.kind = r.detail.kind ∧ r'.seq = r.seq := by
  dsimp only
  split
  · next h =>
    simp only [Record.absorbs, Bool.and_eq_true, decide_eq_true_eq] at h
    exact ⟨rfl, h.2.symm, rfl⟩
  · exact ⟨rfl, rfl, rfl⟩

/-- An enqueue keeps the form of the queue (R145, R147). -/
theorem EventQueue.enqueue_wf (q : EventQueue) (tag : Option LineId) (now : Word) (src : Source) (d : Detail)
    (hq : q.Wf) : (q.enqueue tag now src d).Wf := by
  obtain ⟨hlen, hseq, hap⟩ := hq
  by_cases hc : q.records.any (fun r => r.absorbs src d) = true
  · rw [q.enqueue_coalesce tag now src d hc]
    refine ⟨by simpa using hlen, ?_, ?_⟩
    · rw [show (List.map (fun x => x.seq) (q.records.map fun r =>
          if r.absorbs src d then { r with detail := d, time := now, count := satInc r.count } else r)) =
          q.records.map (·.seq) by
        rw [List.map_map]
        exact List.map_congr_left fun r _ => (r.coalesced_kind src d now).2.2]
      exact hseq
    · refine List.pairwise_map.mpr (hap.imp fun {a b} hab => ?_)
      have ha := a.coalesced_kind src d now
      have hb := b.coalesced_kind src d now
      dsimp only at ha hb
      unfold Record.apart at *
      rw [ha.1, ha.2.1, hb.1, hb.2.1]
      exact hab
  · rw [Bool.not_eq_true] at hc
    by_cases hl : q.records.length < 32
    · rw [q.enqueue_append tag now src d hc hl]
      refine ⟨by simp; omega, ?_, ?_⟩
      · simp only [List.map_append, List.map_cons, List.map_nil]
        refine List.nodup_append'.mpr ⟨hseq, List.nodup_singleton _, ?_⟩
        intro x hx hx'
        rw [List.mem_singleton] at hx'
        subst hx'
        exact freshSeq_not_mem _ _ (by simpa using hl) hx
      · refine List.pairwise_append.mpr ⟨hap, List.pairwise_singleton _ _, ?_⟩
        intro r hr r' hr'
        rw [List.mem_singleton] at hr'
        subst hr'
        intro ⟨h1, h2, h3⟩
        have := (List.any_eq_false.mp hc) r hr
        apply this
        have h3' : r.detail.kind = d.kind := h3
        have h2' : r.source = src := h2
        simp only [Record.absorbs, Bool.and_eq_true, decide_eq_true_eq]
        exact ⟨⟨h3' ▸ h1, h2'⟩, h3'⟩
    · rw [q.enqueue_drop tag now src d hc hl]
      exact ⟨hlen, hseq, hap⟩

/-! ## Takes (R153, R154) -/

/-- A take keeps the form of the queue. -/
theorem EventQueue.take_wf (q : EventQueue) (win : Fin 5) (wants : Record → Bool) (hq : q.Wf) :
    (q.take win wants).Wf := by
  obtain ⟨hlen, hseq, hap⟩ := hq
  have hsub : (q.records.eraseP wants).Sublist q.records := List.eraseP_sublist
  exact ⟨hsub.length_le.trans hlen, hseq.sublist (hsub.map _), hap.sublist hsub⟩

/-- The empty queue has the form. -/
theorem EventQueue.reset_wf : EventQueue.reset.Wf := ⟨Nat.zero_le _, List.nodup_nil, List.Pairwise.nil⟩

end Sys2Proof.Machine
end

