-- ==== Sys2Proof/Laws/PerInstr.lean ====
section
/-! SUPPORT. One lemma for each command: a well-formed register word stands at a multiple of 4. -/

namespace Sys2Proof.Laws.WordAddress

open Sys2Proof

/-- The register word of a well-formed command stands at a multiple of 4 (00_scope 5.1). -/
def Statement (i : Instr) : Prop := i.wellFormed = true → ∀ a, i.wordAddr = some a → a.toNat % 4 = 0

/-- The addresses of the registers that commands write. -/
theorem bay_aligned : ∀ b : BayId, (Machine.Reg.bay b .config).addr.toNat % 4 = 0 ∧
    (Machine.Reg.bay b .command).addr.toNat % 4 = 0 := by decide

theorem entry_aligned : (∀ p : ProfileId, (Machine.Reg.profileA p).addr.toNat % 4 = 0 ∧
    (Machine.Reg.profileB p).addr.toNat % 4 = 0) ∧ (∀ n : BusId, (Machine.Reg.busConfig n).addr.toNat % 4 = 0) ∧
    (∀ i : SourceId, (Machine.Reg.routing i).addr.toNat % 4 = 0) ∧
    ∀ k : LineId, (Machine.Reg.lineControl k).addr.toNat % 4 = 0 := by decide

/-- A command whose register stands at a multiple of 4 satisfies the statement. -/
theorem of_addr {i : Instr} {a : Addr} (h : i.wordAddr = some a) (ha : a.toNat % 4 = 0) : Statement i := by
  intro _ a' h'
  rw [h, Option.some.injEq] at h'
  rw [← h']
  exact ha

/-- A command that is no register word satisfies the statement. -/
theorem of_none {i : Instr} (h : i.wordAddr = none) : Statement i := by
  intro _ a ha
  rw [h] at ha
  exact absurd ha (by simp)

theorem resetNAssert :
    Statement .resetNAssert := of_none rfl

theorem startUp :
    Statement .startUp := of_none rfl

theorem softReset (word : Word) :
    Statement (.softReset word) := of_addr rfl (by decide)

theorem timebaseTick :
    Statement .timebaseTick := of_none rfl

theorem pcsNFall :
    Statement .pcsNFall := of_none rfl

theorem pcsNRise (bits : List Bool) :
    Statement (.pcsNRise bits) := of_none rfl

theorem registerWrite (addr : Addr) (word : Word) :
    Statement (.registerWrite addr word) := by
  intro h a ha
  simp only [Instr.wordAddr, Option.some.injEq] at ha
  subst ha
  simp only [Instr.wellFormed, registerWordWellFormed, Bool.and_eq_true, decide_eq_true_eq] at h
  exact h.1

theorem bayConfigurationWrite (bay : BayId) (word : Word) :
    Statement (.bayConfigurationWrite bay word) := of_addr rfl (bay_aligned bay).1

theorem profileWrite (profile : ProfileId) (wordB : Bool) (word : Word) :
    Statement (.profileWrite profile wordB word) := by
  cases wordB
  · exact of_addr rfl (entry_aligned.1 profile).1
  · exact of_addr rfl (entry_aligned.1 profile).2

theorem classMapWrite (word : Word) :
    Statement (.classMapWrite word) := of_addr rfl (by decide)

theorem busConfigurationWrite (bus : BusId) (word : Word) :
    Statement (.busConfigurationWrite bus word) := of_addr rfl (entry_aligned.2.1 bus)

theorem routingEntryWrite (source : SourceId) (word : Word) :
    Statement (.routingEntryWrite source word) := of_addr rfl (entry_aligned.2.2.1 source)

theorem lineControlWrite (line : LineId) (word : Word) :
    Statement (.lineControlWrite line word) := of_addr rfl (entry_aligned.2.2.2 line)

theorem takeLineWindow (word : Word) :
    Statement (.takeLineWindow word) := of_addr rfl (by decide)

theorem takeAnyWindow (word : Word) :
    Statement (.takeAnyWindow word) := of_addr rfl (by decide)

theorem overflowClear (word : Word) :
    Statement (.overflowClear word) := of_addr rfl (by decide)

theorem routeConflictClear (word : Word) :
    Statement (.routeConflictClear word) := of_addr rfl (by decide)

theorem portErrorClear (word : Word) :
    Statement (.portErrorClear word) := of_addr rfl (by decide)

theorem hunt (mask : BusMask) (tag : Byte) :
    Statement (.hunt mask tag) := of_addr rfl (by decide)

theorem busRestart (mask : BusMask) (tag : Byte) :
    Statement (.busRestart mask tag) := of_addr rfl (by decide)

theorem powerOn (bay : BayId) (tag : Byte) (args : CommandArgs) :
    Statement (.powerOn bay tag args) := of_addr rfl (bay_aligned bay).2

theorem powerOff (bay : BayId) (tag : Byte) (args : CommandArgs) :
    Statement (.powerOff bay tag args) := of_addr rfl (bay_aligned bay).2

theorem setInd (bay : BayId) (tag : Byte) (args : CommandArgs) :
    Statement (.setInd bay tag args) := of_addr rfl (bay_aligned bay).2

theorem lock (bay : BayId) (tag : Byte) (args : CommandArgs) :
    Statement (.lock bay tag args) := of_addr rfl (bay_aligned bay).2

theorem unlock (bay : BayId) (tag : Byte) (args : CommandArgs) :
    Statement (.unlock bay tag args) := of_addr rfl (bay_aligned bay).2

theorem setAux (bay : BayId) (tag : Byte) (args : CommandArgs) :
    Statement (.setAux bay tag args) := of_addr rfl (bay_aligned bay).2

theorem clearFault (bay : BayId) (tag : Byte) (args : CommandArgs) :
    Statement (.clearFault bay tag args) := of_addr rfl (bay_aligned bay).2

theorem refresh (bay : BayId) (tag : Byte) (args : CommandArgs) :
    Statement (.refresh bay tag args) := of_addr rfl (bay_aligned bay).2

theorem rampTimeExpiry (bay : BayId) :
    Statement (.rampTimeExpiry bay) := of_none rfl

theorem rampTimeout (bay : BayId) :
    Statement (.rampTimeout bay) := of_none rfl

theorem clkToRstExpiry (bay : BayId) :
    Statement (.clkToRstExpiry bay) := of_none rfl

theorem drainStepExpiry (bay : BayId) :
    Statement (.drainStepExpiry bay) := of_none rfl

theorem cooldownExpiry (bay : BayId) :
    Statement (.cooldownExpiry bay) := of_none rfl

theorem debounceExpiry (bay : BayId) :
    Statement (.debounceExpiry bay) := of_none rfl

theorem pollTimerExpiry (bus : BusId) :
    Statement (.pollTimerExpiry bus) := of_none rfl

theorem xalertAsserted (bus : BusId) :
    Statement (.xalertAsserted bus) := of_none rfl

theorem xalertDeasserted (bus : BusId) :
    Statement (.xalertDeasserted bus) := of_none rfl

theorem beginTransaction (bus : BusId) :
    Statement (.beginTransaction bus) := of_none rfl

theorem outputWriteComplete (bus : BusId) :
    Statement (.outputWriteComplete bus) := of_none rfl

theorem inputReadComplete (bus : BusId) (input output direction : Half) :
    Statement (.inputReadComplete bus input output direction) := of_none rfl

theorem probeAcknowledged (bus : BusId) :
    Statement (.probeAcknowledged bus) := of_none rfl

theorem identReadComplete (bus : BusId) (ident : Byte) :
    Statement (.identReadComplete bus ident) := of_none rfl

theorem setupReadComplete (bus : BusId) (output direction blink rate : Half) :
    Statement (.setupReadComplete bus output direction blink rate) := of_none rfl

theorem forceSafeWriteComplete (bus : BusId) :
    Statement (.forceSafeWriteComplete bus) := of_none rfl

theorem seedingReadComplete (bus : BusId) (input output direction : Half) :
    Statement (.seedingReadComplete bus input output direction) := of_none rfl

theorem attemptNack (bus : BusId) :
    Statement (.attemptNack bus) := of_none rfl

theorem attemptDataLineLow (bus : BusId) :
    Statement (.attemptDataLineLow bus) := of_none rfl

theorem clockStretchRelease (bus : BusId) :
    Statement (.clockStretchRelease bus) := of_none rfl

theorem clockStretchTimeout (bus : BusId) :
    Statement (.clockStretchTimeout bus) := of_none rfl

theorem recoveryPassEnd (bus : BusId) (dataHigh : Bool) :
    Statement (.recoveryPassEnd bus dataHigh) := of_none rfl

theorem pulseHighEnd (line : LineId) :
    Statement (.pulseHighEnd line) := of_none rfl

theorem pulseGapEnd (line : LineId) :
    Statement (.pulseGapEnd line) := of_none rfl

theorem clockStretchDetected (bus : BusId) :
    Statement (.clockStretchDetected bus) := of_none rfl

theorem undefinedBayCommand (bay : BayId) (code : BitVec 4) (tag : Byte) (args : CommandArgs) :
    Statement (.undefinedBayCommand bay code tag args) := of_addr rfl (bay_aligned bay).2

theorem undefinedGlobalCommand (code : BitVec 4) (mask : BusMask) (tag : Byte) :
    Statement (.undefinedGlobalCommand code mask tag) := of_addr rfl (by decide)

end Sys2Proof.Laws.WordAddress
end

