-- ==== Sys2Proof/Laws/Shell.lean ====
section
/-! SUPPORT. For each operation of a bay or of a bus: it leaves the shell of the state alone. -/

namespace Sys2Proof.Machine

set_option linter.unusedTactic false
set_option linter.unnecessarySeqFocus false

@[simp] theorem State.modifyBay_shell (s : State) (b : BayId) (f : Bay → Bay) :
    (s.modifyBay b f).shell = s.shell := rfl

@[simp] theorem State.modifyEngine_shell (s : State) (n : BusId) (f : Engine → Engine) :
    (s.modifyEngine n f).shell = s.shell := rfl

@[simp] theorem State.modifyLine_shell (s : State) (k : LineId) (f : Line → Line) :
    (s.modifyLine k f).shell = s.shell := rfl

@[simp] theorem State.enqueue_shell (s : State) (src : Source) (d : Detail) :
    (s.enqueue src d).shell = s.shell := rfl

@[simp] theorem State.noticeAppends_shell (s t : State) : (s.noticeAppends t).shell = t.shell := rfl

/-- A fold of an operation that leaves the shell alone leaves it alone. -/
theorem State.foldl_shell {α : Type} (f : State → α → State) (h : ∀ s a, (f s a).shell = s.shell) :
    ∀ (l : List α) (s : State), (l.foldl f s).shell = s.shell
  | [], _ => rfl
  | a :: l, s => (State.foldl_shell f h l (f s a)).trans (h s a)

@[simp] theorem State.requestRead_shell (s : State) (b : BayId) (w : Waiters) : (s.requestRead b w).shell = s.shell := by
  unfold State.requestRead
  (repeat' split) <;> simp

@[simp] theorem State.requestWrite_shell (s : State) (b : BayId) (u : Bool) : (s.requestWrite b u).shell = s.shell := by
  unfold State.requestWrite
  (repeat' split) <;> simp

@[simp] theorem State.requestDiscovery_shell (s : State) (b : BayId) (k : TxKind) (c : Option Written) : (s.requestDiscovery b k c).shell = s.shell := by
  unfold State.requestDiscovery
  (repeat' split) <;> simp

@[simp] theorem State.updateTarget_shell (s : State) (b : BayId) (f : Image → Image) (u : Bool) : (s.updateTarget b f u).shell = s.shell := by
  unfold State.updateTarget
  (repeat' split) <;> simp

@[simp] theorem State.completeCommand_shell (s : State) (b : BayId) (r : CommandResult) : (s.completeCommand b r).shell = s.shell := by
  unfold State.completeCommand; try dsimp only
  (repeat' split) <;> simp

@[simp] theorem State.startSweep_shell (s : State) (n : BusId) : (s.startSweep n).shell = s.shell := by
  unfold State.startSweep; dsimp only; rw [State.modifyEngine_shell]
  exact State.foldl_shell _ (fun t b => State.requestRead_shell t b _) _ s

@[simp] theorem State.evalSweep_shell (s : State) (n : BusId) : (s.evalSweep n).shell = s.shell := by
  unfold State.evalSweep
  (repeat' split) <;> simp

@[simp] theorem State.sweepLeave_shell (s : State) (b : BayId) : (s.sweepLeave b).shell = s.shell := by
  unfold State.sweepLeave; try dsimp only
  (repeat' split) <;> simp

@[simp] theorem State.dropEntries_shell (s : State) (b : BayId) : (s.dropEntries b).shell = s.shell := by
  unfold State.dropEntries; try dsimp only
  (repeat' split) <;> simp

@[simp] theorem State.depart_shell (s : State) (b : BayId) (d : LinkState) (c : LinkCause) : (s.depart b d c).shell = s.shell := by
  unfold State.depart; simp

@[simp] theorem State.huntLeave_shell (s : State) (b : BayId) : (s.huntLeave b).shell = s.shell := by
  unfold State.huntLeave; simp

@[simp] theorem State.endHunt_shell (s : State) (n : BusId) : (s.endHunt n).shell = s.shell := by
  unfold State.endHunt
  (repeat' split) <;> simp

@[simp] theorem State.huntReach_shell (s : State) (b : BayId) : (s.huntReach b).shell = s.shell := by
  unfold State.huntReach; try dsimp only
  (repeat' split) <;> simp

@[simp] theorem State.startHunt_shell (s : State) (n : BusId) : (s.startHunt n).shell = s.shell := by
  unfold State.startHunt; dsimp only; rw [State.endHunt_shell]
  exact State.foldl_shell _ State.huntReach_shell _ _

@[simp] theorem State.bayDown_shell (failing : Bool) (s : State) (b : BayId) :
    (State.bayDown failing s b).shell = s.shell := by
  unfold State.bayDown; try dsimp only
  (repeat' split) <;> simp

@[simp] theorem State.busDown_shell (s : State) (n : BusId) (f : Bool) : (s.busDown n f).shell = s.shell := by
  unfold State.busDown; dsimp only; rw [State.endHunt_shell, State.evalSweep_shell,
    State.foldl_shell _ (State.bayDown_shell f)]
  rfl

@[simp] theorem State.startTimer_shell (s : State) (b : BayId) (p : SeqPurpose) (n : Nat) : (s.startTimer b p n).shell = s.shell := by
  rfl

@[simp] theorem State.rampWaitEnd_shell (s : State) (b : BayId) : (s.rampWaitEnd b).shell = s.shell := by
  unfold State.rampWaitEnd; try dsimp only
  (repeat' split) <;> simp

@[simp] theorem State.beginPowerUp_shell (s : State) (b : BayId) : (s.beginPowerUp b).shell = s.shell := by
  unfold State.beginPowerUp; try dsimp only
  (repeat' split) <;> simp

@[simp] theorem State.autoStart_shell (s : State) (b : BayId) : (s.autoStart b).shell = s.shell := by
  unfold State.autoStart; try dsimp only
  (repeat' split) <;> simp

@[simp] theorem State.clockWaitEnd_shell (s : State) (b : BayId) : (s.clockWaitEnd b).shell = s.shell := by
  unfold State.clockWaitEnd; try dsimp only
  (repeat' split) <;> simp

@[simp] theorem State.endOfRamp_shell (s : State) (b : BayId) : (s.endOfRamp b).shell = s.shell := by
  unfold State.endOfRamp; try dsimp only
  (repeat' split) <;> simp

@[simp] theorem State.enterOn_shell (s : State) (b : BayId) : (s.enterOn b).shell = s.shell := by
  unfold State.enterOn; try dsimp only
  (repeat' split) <;> simp

@[simp] theorem State.releaseReset_shell (s : State) (b : BayId) : (s.releaseReset b).shell = s.shell := by
  unfold State.releaseReset; try dsimp only
  (repeat' split) <;> simp

@[simp] theorem State.enterOff_shell (s : State) (b : BayId) : (s.enterOff b).shell = s.shell := by
  unfold State.enterOff; try dsimp only
  (repeat' split) <;> simp

@[simp] theorem State.abandonHeld_shell (s : State) (b : BayId) : (s.abandonHeld b).shell = s.shell := by
  unfold State.abandonHeld; try dsimp only
  (repeat' split) <;> simp

@[simp] theorem State.cooldownEnds_shell (s : State) (b : BayId) : (s.cooldownEnds b).shell = s.shell := by
  unfold State.cooldownEnds; try dsimp only
  (repeat' split) <;> simp

@[simp] theorem State.enterCool_shell (s : State) (b : BayId) (c : Option StateCause) : (s.enterCool b c).shell = s.shell := by
  unfold State.enterCool; try dsimp only
  (repeat' split) <;> simp

@[simp] theorem State.drainDone_shell (s : State) (b : BayId) : (s.drainDone b).shell = s.shell := by
  unfold State.drainDone; try dsimp only
  (repeat' split) <;> simp

@[simp] theorem State.drainStep_shell (s : State) (b : BayId) (st : SeqStep) :
    (s.drainStep b st).shell = s.shell := by
  unfold State.drainStep; simp

@[simp] theorem State.drainCompute_shell (fuel : Nat) (s : State) (b : BayId) :
    (State.drainCompute fuel s b).shell = s.shell := by
  induction fuel generalizing s with
  | zero =>
    unfold State.drainCompute
    dsimp only
    (repeat' split) <;> simp
  | succ k ih =>
    unfold State.drainCompute
    dsimp only
    (repeat' split) <;> simp [ih]

@[simp] theorem State.drainWaitEnd_shell (s : State) (b : BayId) (st : SeqStep) : (s.drainWaitEnd b st).shell = s.shell := by
  unfold State.drainWaitEnd; try dsimp only
  (repeat' split) <;> simp

@[simp] theorem State.powerDown_shell (s : State) (b : BayId) : (s.powerDown b).shell = s.shell := by
  unfold State.powerDown; try dsimp only
  (repeat' split) <;> simp

@[simp] theorem State.takeFault_shell (s : State) (b : BayId) (k : FaultKind) : (s.takeFault b k).shell = s.shell := by
  unfold State.takeFault; try dsimp only
  (repeat' split) <;> simp

@[simp] theorem State.faultCleared_shell (s : State) (b : BayId) : (s.faultCleared b).shell = s.shell := by
  unfold State.faultCleared; try dsimp only
  (repeat' split) <;> simp

@[simp] theorem State.judgeLive_shell (s : State) (b : BayId) (p : Bool) : (s.judgeLive b p).shell = s.shell := by
  unfold State.judgeLive; try dsimp only
  (repeat' split) <;> simp

@[simp] theorem State.sequencerTest_shell (s : State) (b : BayId) : (s.sequencerTest b).shell = s.shell := by
  unfold State.sequencerTest; try dsimp only
  (repeat' split) <;> simp

@[simp] theorem State.awaitedTest_shell (s : State) (b : BayId) : (s.awaitedTest b).shell = s.shell := by
  unfold State.awaitedTest; try dsimp only
  (repeat' split) <;> simp

@[simp] theorem State.dropConfirming_shell (s : State) (b : BayId) : (s.dropConfirming b).shell = s.shell := by
  unfold State.dropConfirming; try dsimp only
  (repeat' split) <;> simp

@[simp] theorem State.startCandidate_shell (s : State) (b : BayId) (v : View) : (s.startCandidate b v).shell = s.shell := by
  unfold State.startCandidate; try dsimp only
  (repeat' split) <;> simp

@[simp] theorem State.discardCandidate_shell (s : State) (b : BayId) : (s.discardCandidate b).shell = s.shell := by
  unfold State.discardCandidate; try dsimp only
  (repeat' split) <;> simp

@[simp] theorem State.automaticOff_shell (s : State) (b : BayId) (e : Bool) : (s.automaticOff b e).shell = s.shell := by
  unfold State.automaticOff; try dsimp only
  (repeat' split) <;> simp

@[simp] theorem State.presenceHandOff_shell (s : State) (b : BayId) : (s.presenceHandOff b).shell = s.shell := by
  unfold State.presenceHandOff; try dsimp only
  (repeat' split) <;> simp

@[simp] theorem State.latchHandOff_shell (s : State) (b : BayId) : (s.latchHandOff b).shell = s.shell := by
  unfold State.latchHandOff; try dsimp only
  (repeat' split) <;> simp

@[simp] theorem State.acceptanceRecords_shell (s : State) (b : BayId) (a : Accepted) : (s.acceptanceRecords b a).shell = s.shell := by
  unfold State.acceptanceRecords; try dsimp only
  (repeat' split) <;> simp

@[simp] theorem State.acceptView_shell (s : State) (b : BayId) (v : View) (l : Half) : (s.acceptView b v l).shell = s.shell := by
  unfold State.acceptView; try dsimp only
  (repeat' split) <;> simp

@[simp] theorem State.debounce_shell (s : State) (b : BayId) (v : View) (l : Half) (c : Bool) : (s.debounce b v l c).shell = s.shell := by
  unfold State.debounce; try dsimp only
  (repeat' split) <;> simp

@[simp] theorem State.sampleRead_shell (s : State) (b : BayId) (l : Half) : (s.sampleRead b l).shell = s.shell := by
  unfold State.sampleRead; try dsimp only
  (repeat' split) <;> simp

@[simp] theorem State.answerWaiters_shell (s : State) (b : BayId) (w : Waiters) : (s.answerWaiters b w).shell = s.shell := by
  unfold State.answerWaiters; try dsimp only
  (repeat' split) <;> simp

@[simp] theorem State.readDone_shell (s : State) (b : BayId) (w : Waiters) (l o d : Half) : (s.readDone b w l o d).shell = s.shell := by
  unfold State.readDone; try dsimp only
  (repeat' split) <;> simp

@[simp] theorem State.confirmCandidate_shell (s : State) (b : BayId) : (s.confirmCandidate b).shell = s.shell := by
  unfold State.confirmCandidate; try dsimp only
  (repeat' split) <;> simp

@[simp] theorem State.pollReads_shell (s : State) (n : BusId) : (s.pollReads n).shell = s.shell := by
  exact State.foldl_shell _ (fun t b => State.requestRead_shell t b _) _ s

@[simp] theorem State.probeFound_shell (s : State) (b : BayId) : (s.probeFound b).shell = s.shell := by
  unfold State.probeFound; try dsimp only
  (repeat' split) <;> simp

@[simp] theorem State.probeNotFound_shell (s : State) (b : BayId) : (s.probeNotFound b).shell = s.shell := by
  unfold State.probeNotFound; try dsimp only
  (repeat' split) <;> simp

@[simp] theorem State.setupFailed_shell (s : State) (b : BayId) : (s.setupFailed b).shell = s.shell := by
  unfold State.setupFailed; try dsimp only
  (repeat' split) <;> simp

@[simp] theorem State.bindChecks_shell (s : State) (b : BayId) : (s.bindChecks b).shell = s.shell := by
  unfold State.bindChecks; try dsimp only
  (repeat' split) <;> simp

@[simp] theorem State.huntBound_shell (s : State) (b : BayId) : (s.huntBound b).shell = s.shell := by
  unfold State.huntBound; try dsimp only
  (repeat' split) <;> simp

@[simp] theorem State.identJudged_shell (s : State) (b : BayId) (i : Byte) : (s.identJudged b i).shell = s.shell := by
  unfold State.identJudged; try dsimp only
  (repeat' split) <;> simp

@[simp] theorem State.adopt_shell (s : State) (b : BayId) (r : Regs) (d : Dirs) (c : Decided) : (s.adopt b r d c).shell = s.shell := by
  unfold State.adopt; try dsimp only
  (repeat' split) <;> simp

@[simp] theorem State.forceSafe_shell (s : State) (b : BayId) (r : Regs) (d : Dirs) : (s.forceSafe b r d).shell = s.shell := by
  unfold State.forceSafe; try dsimp only
  (repeat' split) <;> simp

@[simp] theorem State.readbackJudged_shell (s : State) (b : BayId) (r : Regs) : (s.readbackJudged b r).shell = s.shell := by
  unfold State.readbackJudged; try dsimp only
  (repeat' split) <;> simp

@[simp] theorem State.forceSafeDone_shell (s : State) (b : BayId) (c : Option Written) : (s.forceSafeDone b c).shell = s.shell := by
  unfold State.forceSafeDone; try dsimp only
  (repeat' split) <;> simp

@[simp] theorem State.seedInputs_shell (s : State) (b : BayId) (l : Half) (d : Dirs) : (s.seedInputs b l d).shell = s.shell := by
  unfold State.seedInputs; try dsimp only
  (repeat' split) <;> simp

@[simp] theorem State.bindPower_shell (s : State) (b : BayId) (c : Decided) : (s.bindPower b c).shell = s.shell := by
  unfold State.bindPower; try dsimp only
  (repeat' split) <;> simp

@[simp] theorem State.bind_shell (s : State) (b : BayId) (l : Half) (c : Chain) : (s.bind b l c).shell = s.shell := by
  unfold State.bind; try dsimp only
  (repeat' split) <;> simp

@[simp] theorem State.beginNext_shell (s : State) (n : BusId) : (s.beginNext n).shell = s.shell := by
  unfold State.beginNext; try dsimp only
  (repeat' split) <;> simp

@[simp] theorem State.busIdle_shell (s : State) (n : BusId) : (s.busIdle n).shell = s.shell := by
  unfold State.busIdle; try dsimp only
  (repeat' split) <;> simp

@[simp] theorem State.endIgnored_shell (s : State) (n : BusId) (t : Tx) : (s.endIgnored n t).shell = s.shell := by
  unfold State.endIgnored; try dsimp only
  (repeat' split) <;> simp

theorem State.completeTx_shell (s : State) (n : BusId) (k : TxKind) (handed : State → Entry → State)
    (h : ∀ t e, (handed t e).shell = t.shell) : (s.completeTx n k handed).shell = s.shell := by
  unfold State.completeTx
  (repeat' split) <;> simp [h]

@[simp] theorem State.writeDone_shell (s : State) (e : Entry) : (s.writeDone e).shell = s.shell := by
  unfold State.writeDone; try dsimp only
  (repeat' split) <;> simp

@[simp] theorem State.exhausted_shell (s : State) (e : Entry) : (s.exhausted e).shell = s.shell := by
  unfold State.exhausted; try dsimp only
  (repeat' split) <;> simp

@[simp] theorem State.countFailure_shell (s : State) (t : Tx) : (s.countFailure t).shell = s.shell := by
  unfold State.countFailure; try dsimp only
  (repeat' split) <;> simp

@[simp] theorem State.nack_shell (s : State) (n : BusId) : (s.nack n).shell = s.shell := by
  unfold State.nack; try dsimp only
  (repeat' split) <;> simp

@[simp] theorem State.attemptTimeout_shell (s : State) (n : BusId) (t : Tx) (a : Nat) : (s.attemptTimeout n t a).shell = s.shell := by
  unfold State.attemptTimeout; try dsimp only
  (repeat' split) <;> simp

@[simp] theorem State.passSucceeds_shell (s : State) (n : BusId) (t : Tx) (a : Nat) : (s.passSucceeds n t a).shell = s.shell := by
  unfold State.passSucceeds; try dsimp only
  (repeat' split) <;> simp

@[simp] theorem State.passFails_shell (s : State) (n : BusId) (t : Tx) (a p : Nat) : (s.passFails n t a p).shell = s.shell := by
  unfold State.passFails; try dsimp only
  (repeat' split) <;> simp

@[simp] theorem State.refuseCommand_shell (s : State) (b : BayId) (r : CommandResult) (t : Byte) : (s.refuseCommand b r t).shell = s.shell := by
  unfold State.refuseCommand; try dsimp only
  (repeat' split) <;> simp

@[simp] theorem State.takeSlot_shell (s : State) (b : BayId) (c : BayCommand) (t : Byte) : (s.takeSlot b c t).shell = s.shell := by
  unfold State.takeSlot; try dsimp only
  (repeat' split) <;> simp

@[simp] theorem State.await_shell (s : State) (b : BayId) (g : Option Half) : (s.await b g).shell = s.shell := by
  unfold State.await; try dsimp only
  (repeat' split) <;> simp

@[simp] theorem State.outputEffect_shell (s : State) (b : BayId) (f : Image → Image) : (s.outputEffect b f).shell = s.shell := by
  unfold State.outputEffect; try dsimp only
  (repeat' split) <;> simp

@[simp] theorem State.powerOnEffect_shell (s : State) (b : BayId) : (s.powerOnEffect b).shell = s.shell := by
  unfold State.powerOnEffect; try dsimp only
  (repeat' split) <;> simp

@[simp] theorem State.overtakePowerOn_shell (s : State) (b : BayId) : (s.overtakePowerOn b).shell = s.shell := by
  unfold State.overtakePowerOn; try dsimp only
  (repeat' split) <;> simp

@[simp] theorem State.powerOffEffect_shell (s : State) (b : BayId) (h : Bool) : (s.powerOffEffect b h).shell = s.shell := by
  unfold State.powerOffEffect; try dsimp only
  (repeat' split) <;> simp

@[simp] theorem State.refreshEffect_shell (s : State) (b : BayId) : (s.refreshEffect b).shell = s.shell := by
  unfold State.refreshEffect; try dsimp only
  (repeat' split) <;> simp

@[simp] theorem State.firstEffect_shell (s : State) (b : BayId) (c : BayCommand) (a : CommandArgs) (h : Bool) : (s.firstEffect b c a h).shell = s.shell := by
  unfold State.firstEffect; try dsimp only
  (repeat' split) <;> simp

@[simp] theorem State.acceptCommand_shell (s : State) (b : BayId) (c : BayCommand) (t : Byte) (a : CommandArgs) : (s.acceptCommand b c t a).shell = s.shell := by
  unfold State.acceptCommand; try dsimp only
  (repeat' split) <;> simp

@[simp] theorem State.takeCommand_shell (s : State) (b : BayId) (c : BayCommand) (t : Byte) (a : CommandArgs) : (s.takeCommand b c t a).shell = s.shell := by
  unfold State.takeCommand; try dsimp only
  (repeat' split) <;> simp

@[simp] theorem State.takeCommandCode_shell (s : State) (b : BayId) (c : BitVec 4) (t : Byte) (a : CommandArgs) : (s.takeCommandCode b c t a).shell = s.shell := by
  unfold State.takeCommandCode; try dsimp only
  (repeat' split) <;> simp

@[simp] theorem State.ignoreCurrent_shell (s : State) (b : BayId) : (s.ignoreCurrent b).shell = s.shell := by
  unfold State.ignoreCurrent; try dsimp only
  (repeat' split) <;> simp

@[simp] theorem State.release_shell (s : State) (b : BayId) : (s.release b).shell = s.shell := by
  unfold State.release; try dsimp only
  (repeat' split) <;> simp

@[simp] theorem State.correctIndicator_shell (s : State) (b : BayId) : (s.correctIndicator b).shell = s.shell := by
  unfold State.correctIndicator; try dsimp only
  (repeat' split) <;> simp

end Sys2Proof.Machine
end

