-- ==== Sys2Proof/Laws/Results.lean ====
section
/-! SUPPORT. What the shared operations answer: events, register words, requests, target updates and
command completion. -/

namespace Sys2Proof.Machine

/-! ## Events and register words -/

/-- While RESET_N is low an event changes nothing (R126). -/
theorem State.event_held (s t : State) (h : s.resetLow = true) : s.event t = .next s := by
  simp [State.event, h]

theorem State.event_taken (s t : State) (h : s.resetLow = false) : s.event t = .next (s.noticeAppends t) := by
  simp [State.event, h]

/-- An event that appends nothing answers the state its rules give. -/
theorem State.event_quiet (s t : State) (h : s.resetLow = false) (he : t.events = s.events) :
    s.event t = .next t := by
  rw [State.event_taken s t h, State.noticeAppends_of_events s t he]

theorem State.wordEvent_taken (s : State) (a : Addr) (f : State → State) (h : s.takesWord a = true) :
    s.wordEvent a f = .next (s.noticeAppends (f (s.afterWord a))) := by
  simp [State.wordEvent, h]

theorem State.wordEvent_ignored (s : State) (a : Addr) (f : State → State) (h : s.takesWord a = false) :
    s.wordEvent a f = .next s := by
  simp [State.wordEvent, h]

/-- A word that appends nothing answers the state its owner gives. -/
theorem State.wordEvent_quiet (s : State) (a : Addr) (f : State → State) (h : s.takesWord a = true)
    (he : (f (s.afterWord a)).events = s.events) : s.wordEvent a f = .next (f (s.afterWord a)) := by
  rw [State.wordEvent_taken s a f h, State.noticeAppends_of_events s _ he]

/-- A port that takes a word is out of reset. -/
theorem State.takesWord_resetLow (s : State) (a : Addr) (h : s.takesWord a = true) : s.resetLow = false := by
  unfold State.takesWord at h
  split at h <;> simp_all

/-! ## Requests (R109 to R111) -/

@[simp] theorem State.requestRead_events (s : State) (b : BayId) (w : Waiters) :
    (s.requestRead b w).events = s.events := by
  unfold State.requestRead; split <;> rfl

@[simp] theorem State.requestWrite_events (s : State) (b : BayId) (u : Bool) :
    (s.requestWrite b u).events = s.events := by
  unfold State.requestWrite; split <;> rfl

@[simp] theorem State.requestDiscovery_events (s : State) (b : BayId) (k : TxKind) (w : Option Written) :
    (s.requestDiscovery b k w).events = s.events := by
  unfold State.requestDiscovery; split <;> rfl

/-! ## Target updates (R11) -/

@[simp] theorem State.updateTarget_events (s : State) (b : BayId) (f : Image → Image) (u : Bool) :
    (s.updateTarget b f u).events = s.events := by
  unfold State.updateTarget; split <;> simp

/-- The bay after an update: the new target, and the next generation when a field has changed (R11). -/
theorem State.updateTarget_bay (s : State) (b : BayId) (f : Image → Image) (u : Bool) :
    (s.updateTarget b f u).bay b =
      { s.bay b with
        target := f (s.bay b).target,
        targetGen := if f (s.bay b).target = (s.bay b).target then (s.bay b).targetGen
                     else (s.bay b).targetGen + 1 } := by
  unfold State.updateTarget
  split
  · next h => rw [h]
  · next h => simp [State.requestWrite_bay_ne]

/-! ## Completion (R59) -/

/-- The bay after a completion: the slot alone has changed, and holds no command in progress (R59). -/
theorem State.completeCommand_bay (s : State) (b : BayId) (r : CommandResult)
    (h : (s.bay b).slot.inProgress = true) :
    (s.completeCommand b r).bay b =
      { s.bay b with
        slot := { (s.bay b).slot with
                  inProgress := false, awaited := none, lastResult := r, resultTag := (s.bay b).slot.tag } } := by
  unfold State.completeCommand
  dsimp only
  rw [if_pos h]
  split <;> simp

/-- The COMMAND record of a completion (R59). -/
theorem State.completeCommand_events (s : State) (b : BayId) (r : CommandResult) (c : BayCommand)
    (h : (s.bay b).slot.inProgress = true) (hc : (s.bay b).slot.code = some c) :
    (s.completeCommand b r).events = (s.enqueue (.bay b) (.command c (s.bay b).slot.tag r)).events := by
  unfold State.completeCommand
  dsimp only
  rw [if_pos h, hc]
  rfl

/-- Without a command in progress a completion changes nothing. -/
theorem State.completeCommand_idle (s : State) (b : BayId) (r : CommandResult)
    (h : (s.bay b).slot.inProgress = false) : s.completeCommand b r = s := by
  unfold State.completeCommand
  simp [h]

/-! ## Refusal (R57) -/

@[simp] theorem State.refuseCommand_bay (s : State) (b : BayId) (r : CommandResult) (tag : Byte) :
    (s.refuseCommand b r tag).bay b =
      { s.bay b with slot := { (s.bay b).slot with lastResult := r, resultTag := tag } } := by
  unfold State.refuseCommand; simp

@[simp] theorem State.refuseCommand_events (s : State) (b : BayId) (r : CommandResult) (tag : Byte) :
    (s.refuseCommand b r tag).events = s.events := rfl

end Sys2Proof.Machine
end

