-- ==== Sys2Proof/Laws/Statements.lean ====
section
/-! SUPPORT. Small lemmas of the vocabulary of the statements (Safety), of the expander and of the wire. -/

namespace Sys2Proof.Machine

/-! ## Records of one event -/

@[simp] theorem State.enqueueAll_nil (s : State) (src : Source) : s.enqueueAll src [] = s := rfl

@[simp] theorem State.enqueueAll_cons (s : State) (src : Source) (d : Detail) (ds : List Detail) :
    s.enqueueAll src (d :: ds) = (s.enqueue src d).enqueueAll src ds := rfl

theorem State.enqueueAll_append (s : State) (src : Source) (ds es : List Detail) :
    s.enqueueAll src (ds ++ es) = (s.enqueueAll src ds).enqueueAll src es := List.foldl_append

@[simp] theorem State.tellHunt_none (s : State) (n : BusId) : s.tellHunt n none = s := rfl

theorem State.tellHunt_some (s : State) (n : BusId) (h : Hunt) :
    s.tellHunt n (some h) = if h.hunted.isEmpty then s.enqueue .part (.huntDone n h.found h.bound) else s := rfl

@[simp] theorem huntLeft_none : huntLeft none = none := rfl

theorem huntLeft_some (h : Hunt) : huntLeft (some h) = if h.hunted.isEmpty then none else some h := rfl

/-! ## The command slot at a completed write -/

theorem Slot.afterWrite_of_awaited_none (sl : Slot) (c : Written) (h : sl.awaited = none) :
    sl.afterWrite c = sl := by
  unfold Slot.afterWrite
  rw [h]
  split <;> simp_all

theorem Slot.writeDetails_of_awaited_none (sl : Slot) (c : Written) (h : sl.awaited = none) :
    sl.writeDetails c = [] := by
  unfold Slot.writeDetails
  rw [h]
  split <;> simp_all

@[simp] theorem Slot.afterWrite_holding (k : BayCommand) (tag : Byte) (g : Half) (c : Written) :
    (Slot.holding k tag (some g)).afterWrite c =
      if genReached (some c) g then Slot.ended k tag .done else Slot.holding k tag (some g) := rfl

@[simp] theorem Slot.writeDetails_holding (k : BayCommand) (tag : Byte) (g : Half) (c : Written) :
    (Slot.holding k tag (some g)).writeDetails c =
      if genReached (some c) g then [.command k tag .done] else [] := rfl

/-! ## The expander -/

@[simp] theorem Expander.send_regs (e : Expander) (board : Half) : (e.send board).2.regs = e.regs := rfl

@[simp] theorem Expander.send_blinkHigh (e : Expander) (board : Half) :
    (e.send board).2.blinkHigh = e.blinkHigh := rfl

@[simp] theorem Expander.send_pointer (e : Expander) (board : Half) :
    (e.send board).2.pointer = e.pointer + 1 := rfl

@[simp] theorem Expander.store_pointer (e : Expander) (v : Byte) : (e.store v).pointer = e.pointer + 1 := rfl

@[simp] theorem Expander.store_snapshot (e : Expander) (v : Byte) : (e.store v).snapshot = e.snapshot := rfl

theorem Expander.setPointer_eq_some {e e' : Expander} {v : Byte} (h : e.setPointer v = some e') :
    v.toNat < 16 ∧ e' = { e with pointer := v.setWidth 4 } := by
  unfold Expander.setPointer at h
  split at h
  · next hv => exact ⟨hv, (Option.some.inj h).symm⟩
  · cases h

/-- Everything an item of an attempt can do to the registers: a byte stored changes them, nothing else does
(R93). -/
theorem Expander.take_regs {b : BayId} {board : Half} {e e' : Expander} {ph ph' : WirePhase} {x : WireItem}
    {bs : List Byte} (h : e.take b board ph x = some (e', ph', bs)) :
    e'.regs = e.regs ∨ ∃ v, ph = .storing ∧ x = .send v ∧ e' = e.store v := by
  unfold Expander.take at h
  split at h
  · cases h; exact .inl rfl
  · cases h; exact .inl rfl
  · cases h; exact .inl rfl
  · next v =>
    split at h
    · split at h
      · cases h; exact .inl rfl
      · split at h
        · cases h; exact .inl rfl
        · cases h
    · cases hp : e.setPointer v with
      | none => rw [hp] at h; cases h
      | some q =>
        rw [hp] at h
        cases h
        exact .inl (by rw [(Expander.setPointer_eq_some hp).2])
    · cases h; exact .inr ⟨v, rfl, rfl, rfl⟩
    · cases h
    · cases h
  · split at h
    · cases h; exact .inl rfl
    · cases h

@[simp] theorem Expander.run_nil (b : BayId) (board : Half) (d : Disturbance) (k : Nat) (ph : WirePhase)
    (e : Expander) : Expander.run b board d k ph [] e =
      { expander := e, wire := [], levels := [], received := [], result := .succeeded } := rfl

/-! ## Holds and cuts -/

@[simp] theorem heldByte_zero (v : Byte) : heldByte v 0 = v := by
  have h : ~~~((0 : BitVec 9).extractLsb' 1 8) = BitVec.allOnes 8 := by decide
  rw [heldByte, h, BitVec.and_allOnes]

@[simp] theorem WireItem.onWire_zero (x : WireItem) : x.onWire 0 = x := by
  cases x with
  | send v => exact congrArg WireItem.send (heldByte_zero v)
  | recv ack => cases ack <;> rfl
  | _ => rfl

@[simp] theorem Disturbance.lowBits_quiet (k : Nat) : Disturbance.quiet.lowBits k = 0 := rfl

@[simp] theorem Disturbance.cutAt_quiet (k : Nat) : Disturbance.quiet.cutAt k = none := rfl

@[simp] theorem Disturbance.lowBits_refused (j k : Nat) : (Disturbance.refused j).lowBits k = 0 := rfl

@[simp] theorem Disturbance.cutAt_refused (j k : Nat) : (Disturbance.refused j).cutAt k = none := rfl

@[simp] theorem Disturbance.lowBits_clockHeld (j bit k : Nat) : (Disturbance.clockHeld j bit).lowBits k = 0 := rfl

@[simp] theorem Disturbance.cutAt_dataHeld (low : List (Nat × BitVec 9)) (k : Nat) :
    (Disturbance.dataHeld low).cutAt k = none := rfl

/-! ## Conditions on the wire -/

@[simp] theorem startsIn_cons_low (d : Bool) (l : List WireLevels) :
    startsIn ({ data := d, clock := false } :: l) = startsIn l := by
  cases l <;> simp [startsIn]

@[simp] theorem stopsIn_cons_low (d : Bool) (l : List WireLevels) :
    stopsIn ({ data := d, clock := false } :: l) = stopsIn l := by
  cases l <;> simp [stopsIn]

/-- Bits make no start condition (R99). -/
@[simp] theorem startsIn_bits_append (bs : List Bool) (l : List WireLevels) :
    startsIn (bs.flatMap bitLevels ++ l) = startsIn l := by
  induction bs with
  | nil => rfl
  | cons b bs ih => simpa [bitLevels, startsIn] using ih

/-- Bits make no stop condition (R99). -/
@[simp] theorem stopsIn_bits_append (bs : List Bool) (l : List WireLevels) :
    stopsIn (bs.flatMap bitLevels ++ l) = stopsIn l := by
  induction bs with
  | nil => rfl
  | cons b bs ih => simpa [bitLevels, stopsIn] using ih

@[simp] theorem startsIn_byteLevels_append (v : Byte) (acked : Bool) (l : List WireLevels) :
    startsIn (byteLevels v acked ++ l) = startsIn l := startsIn_bits_append _ _

@[simp] theorem stopsIn_byteLevels_append (v : Byte) (acked : Bool) (l : List WireLevels) :
    stopsIn (byteLevels v acked ++ l) = stopsIn l := stopsIn_bits_append _ _

end Sys2Proof.Machine
end

