-- ==== Sys2Proof/Tests/Slice0.lean ====
section
/-! SUPPORT. Small tests: ill-formed commands are refused by the check, reset registers and single steps are
as the manual says, and the hypotheses of every statement are met by a concrete state and operands. -/

namespace Sys2Proof.Tests

open Sys2Proof Sys2Proof.Machine

/-! ## Ill-formed commands -/

theorem test_wellFormed_softReset :
    (Instr.softReset 0).wellFormed = false ∧ (Instr.softReset 1).wellFormed = true := by decide

theorem test_wellFormed_pcsNRise :
    (Instr.pcsNRise (List.replicate 48 true)).wellFormed = false ∧
    (Instr.pcsNRise (List.replicate 47 true)).wellFormed = true := by decide

theorem test_wellFormed_registerWrite :
    (Instr.registerWrite 0x01D 0).wellFormed = false ∧ (Instr.registerWrite 0x020 0).wellFormed = false ∧
    (Instr.registerWrite 0x008 1).wellFormed = false ∧ (Instr.registerWrite 0x008 0).wellFormed = true ∧
    (Instr.registerWrite 0x000 0).wellFormed = true ∧ (Instr.registerWrite 0x01C 0).wellFormed = true := by
  decide

theorem test_wellFormed_takes :
    (Instr.takeLineWindow 4).wellFormed = false ∧ (Instr.takeAnyWindow 3).wellFormed = false ∧
    (Instr.takeLineWindow 5).wellFormed = true ∧ (Instr.takeAnyWindow 4).wellFormed = true := by decide

theorem test_wellFormed_undefinedBayCommand :
    (Instr.undefinedBayCommand 2 8 1 noArgs).wellFormed = false ∧
    (Instr.undefinedBayCommand 2 9 1 noArgs).wellFormed = true ∧
    (Instr.undefinedBayCommand 2 0 1 noArgs).wellFormed = true := by decide

theorem test_wellFormed_undefinedGlobalCommand :
    (Instr.undefinedGlobalCommand 2 ⟨true, false⟩ 1).wellFormed = false ∧
    (Instr.undefinedGlobalCommand 3 ⟨true, false⟩ 1).wellFormed = true := by decide

/-! ## Small states -/

/-- Out of reset, with a frame open that has carried no word. -/
def opened : State :=
  { State.reset with resetLow := false, port := { State.reset.port with frame := .opened none } }

/-- A confirmed image with its three power outputs as given and generation 0. -/
def powered (p c r : Bool) : Written :=
  { image := { Image.allOff with pwrEn := p, clkEn := c, released := r }, dirs := Dirs.inputs, gen := 0 }

/-- A BOUND bay at rest: OFF, a module of class 1 behind a closed latch, all outputs confirmed off. -/
def resting : Bay :=
  { Bay.reset with
    link := .bound, power := .off, confirmed := some (powered false false false),
    accepted := { present := true, latchClosed := true, pressed := false, aux0 := true, aux1 := true,
                  moduleClass := some 1 } }

/-- Bay 3 of `opened` is `x`. -/
def withBay (x : Bay) : State := opened.modifyBay 3 fun _ => x

/-- An entry of bay 3. -/
def entry (k : TxKind) (w : Waiters) (c : Option Written) : Entry :=
  { kind := k, bay := 3, urgent := false, waiters := w, carried := c }

/-- Bay 3 is `x` and an entry of it has attempt `a` on the wire. -/
def onWire (x : Bay) (e : Entry) (a : Nat) : State :=
  (withBay x).modifyEngine 0 fun g => { g with bus := .active { entry := e, ignored := false } a .khz100 none }

/-- Bus 0 runs recovery passes for an entry of bay 3. -/
def recovering (p : Nat) (st : Option Nat) : State :=
  (withBay resting).modifyEngine 0 fun g =>
    { g with bus := .recovering { entry := entry .inputRead .none none, ignored := false } 1 p .khz100 st }

/-- The INPUT levels of `resting`, but for FLT_N and PGOOD high. -/
def quietLevels : Half := 0x3CC0

/-- As `withBay`, with a COOLDOWN of 0 in every profile. -/
def quick (x : Bay) : State :=
  { withBay x with profiles := Vector.replicate 4 { Profile.reset with cooldown := 0 } }

/-- A running sequence timer that is due. -/
def due (p : SeqPurpose) : Option SeqTimer := some { purpose := p, left := 0 }

/-- A BUTTON record of bay 3. -/
def button : Record :=
  { seq := 40, source := .bay 3, line := some 1, time := 9, detail := .button, count := 1, missed := none }

/-- The header of a write frame whose first word goes to bay 3's configuration register. -/
def bayHeader : List Bool :=
  [true, false, true, false, false, true, true, false, false, false, false, true, true, true, true, true]

/-! ## Single steps -/

theorem test_idle : step State.reset = .next State.reset := rfl

theorem test_reset_words :
    State.reset.readReg .id = 0x00000B16 ∧ State.reset.readReg (.busConfig 1) = 0x00640301 ∧
    State.reset.readReg (.profileA 2) = 0x003200F0 ∧ State.reset.readReg (.bay 7 .config) = 0x0000101D := by
  decide

theorem test_startUp_hunts :
    (match exec .startUp State.reset with
      | .next t => t.readReg .globalStatus
      | _ => 0) = 0x03000000 := by decide +kernel

theorem test_powerOn_steps :
    (match exec (.powerOn 3 7 noArgs) (withBay resting) with
      | .next t => ((t.bay 3).power, (t.bay 3).target.pwrEn, (t.engine 0).queue.length)
      | _ => (.unknown, false, 0)) = (.ramp, true, 1) := by decide

theorem test_drain_skips_reset :
    (match exec (.powerOff 3 7 noArgs)
        (withBay { resting with power := .clock, confirmed := some (powered true true false) }) with
      | .next t => (t.bay 3).step
      | _ => none) = some .c := by decide

/-- COOLDOWN 0, and a held POWER_ON whose module is gone: the COMMAND record comes before every STATE record. -/
theorem test_abandoned_powerOn_before_states :
    (match exec (.drainStepExpiry 3)
        (quick { resting with
          power := .drain, timer := due .drainStep, pendingUp := true, slot := Slot.holding .powerOn 5 none,
          accepted := { resting.accepted with present := false } }) with
      | .next t => t.events.records.map Record.detail
      | _ => []) = [.command .powerOn 5 .aborted, .state .cool .auto, .state .off .auto] := by decide

theorem test_frameCommands_of_a_write :
    frameCommands (bayHeader ++ (List.finRange 32).map (fun i => (0x0000201D : Word).getLsbD (31 - i.val)) ++ [true]) =
      [.pcsNFall, .registerWrite 0x4C0 0x0000201D, .pcsNRise [true]] := by decide

theorem test_pdo_status_then_zero_then_word :
    let s : State := { opened with port := { opened.port with statusByte := 0x82 } }
    let read := List.replicate 24 false
    (List.range 8).map (fun k => s.pdo (read.take k) []) =
      [some true, some false, some false, some false, some false, some false, some true, some false] ∧
    s.pdo (read.take 23) [] = some false ∧ s.captured read = [0x00000B16] ∧
    s.pdo (read ++ List.replicate 27 false) (s.captured read) = some true ∧ State.reset.pdo read [] = none := by decide

theorem test_expander_pins_follow_a_write :
    (Expander.reset.attempt (entry .outputWrite .none (some (powered true true false))) 0xFF00 .quiet).expander.pins
      0xFF00 = 0xFF03 ∧ Expander.reset.pins 0xFFFF = 0xFFFF := by decide

/-- The address byte of bay 3, 0xB6, not acknowledged: a start, nine bits, a stop. -/
theorem test_probe_on_the_wire :
    (let run := Expander.reset.attempt (entry .probe .none none) 0 (.refused 1)
     ((run.levels.filter WireLevels.clock).map WireLevels.data, startsIn run.levels, stopsIn run.levels)) =
      ([true, false] ++ [true, false, true, true, false, true, true, false] ++ [true] ++ [false, true], 1, 1) := by
  decide

theorem test_conditions :
    startsIn startLevels = 1 ∧ stopsIn startLevels = 0 ∧ startsIn repeatedStartLevels = 1 ∧
    stopsIn repeatedStartLevels = 0 ∧ startsIn (stopLevels true) = 0 ∧ stopsIn (stopLevels true) = 1 ∧
    stopsIn (stopLevels false) = 0 := by decide

theorem test_pass_frees_a_cut_sender : (recoveryPass (cutSender 0x00 0) none).result = .succeeded := by decide

/-- A hold on the last bit of INPUT low and at the stop: the bit reads 0 and the attempt ends by timeout. -/
theorem test_held_bit_reads_zero :
    (let run := Expander.reset.attempt (entry .inputRead .none none) 0xFFFF (.dataHeld [(5, 2), (11, 1)])
     (run.received.head?, run.result)) = (some 0xFE, .timeout) := by decide

/-! ## The hypotheses of the statements are met -/

theorem witness_StepTakesFront :
    ({ opened with pending := [.timebaseTick, .pcsNFall] } : State).pending = .timebaseTick :: [.pcsNFall] ∧
    opened.pending = [] := by decide

theorem witness_IgnoredCommands :
    State.reset.resetLow = true ∧ actsWhileHeld .timebaseTick = false ∧
    (Instr.classMapWrite 0).wordAddr = some Reg.classMap.addr ∧ State.reset.takesWord Reg.classMap.addr = false := by decide

theorem witness_RegisterReads :
    Reg.globalCommand.access = .writeOnly ∧ regAt 0x01C = none ∧ regAt 0x000 = some .id ∧
    ((onWire resting (entry .inputRead .none none) 1).engine 0).bus.current =
      some { entry := entry .inputRead .none none, ignored := false } ∧
    EventQueue.reset.windows[(4 : Fin 5)] = none ∧
    ({ EventQueue.reset with windows := EventQueue.reset.windows.set 4 (some button) } :
      EventQueue).windows[(4 : Fin 5)] = some button := by decide

theorem witness_BayBlockReads :
    let x : Bay := { resting with
      sampled := some { levels := quietLevels, time := 7 }, stepGen := some 3,
      slot := Slot.holding .lock 2 (some 4) }
    x.accepted.moduleClass = some 1 ∧ x.sampled = some { levels := quietLevels, time := 7 } ∧
    x.confirmed = some (powered false false false) ∧ x.slot.awaited = some 4 ∧ x.stepGen = some 3 := by decide

theorem witness_Resets :
    State.reset.resetLow = true ∧ opened.takesWord Reg.globalControl.addr = true ∧ bitOf 1 0 = true ∧
    bitOf 0 0 = false := by decide

theorem witness_TickAgesTimers : opened.resetLow = false := by decide

theorem witness_FrameEdges :
    let closed : State := { opened with port := State.reset.port }
    closed.resetLow = false ∧ closed.port.frame = .closed ∧ State.reset.resetLow = true ∧
    State.reset.port.frame = .closed ∧
    opened.port.frame.cutShort [] = false ∧ opened.port.frame.cutShort [true] = true ∧
    opened.port.frame.cutShort (List.replicate 15 false) = true ∧
    opened.port.frame.cutShort (List.replicate 16 true) = false ∧
    opened.port.frame.cutShort (List.replicate 17 true) = true ∧
    opened.port.frame.cutShort (List.replicate 47 true) = true ∧
    opened.port.frame.cutShort (List.replicate 17 false) = false ∧
    (opened.afterWord 0).port.frame = .opened (some 4) ∧
    (opened.afterWord 0).port.frame.cutShort (List.replicate 31 true) = true ∧
    Frame.waiting.cutShort [true] = false ∧ Frame.discarding.cutShort [true] = false := by decide

theorem witness_FrameBits :
    Header.ofBits bayHeader = some { write := true, addr := 0x4C0 } ∧
    (bayHeader ++ List.replicate 40 true).length = 16 + 32 * 1 + 8 ∧
    Header.ofBits (List.replicate 56 false) = some { write := false, addr := 0 } ∧
    (List.replicate 56 false).length = 24 + 32 * 1 + 0 ∧ [(1 : Word), 2][1]? = some 2 ∧
    opened.port.frame = .opened none ∧ opened.resetLow = false ∧ State.reset.resetLow = true := by decide

theorem witness_PlainRegisterWords :
    regAt 0x01C = none ∧ regAt 0x000 = some .id ∧ Reg.id.access = .readOnly ∧
    regAt 0x008 = some .globalControl ∧ opened.takesWord 0x01C = true ∧ opened.takesWord 0x000 = true ∧
    opened.takesWord 0x008 = true ∧ opened.takesWord Reg.queueStatus.addr = true ∧
    opened.takesWord Reg.globalStatus.addr = true ∧ opened.takesWord Reg.portStatus.addr = true := by
  decide

theorem witness_WordsAndImagesRoundTrip :
    ({ line := some 3, excl := true } : Route).line ≠ none ∧
    ({ Image.allOff with pwrEn := true, clkEn := true, released := true } : Image).lawful = true := by
  decide

theorem witness_ExpanderKeepsWrite :
    let r := (powered true false false).image.encode Dirs.inputs
    r.lineDrive 0 = .steady true ∧ r.lineDrive 2 = .steady false ∧ r.lineDrive 11 = .input := by decide

theorem witness_ExpanderFailures :
    (entry .inputRead .none none).kind ≠ .outputWrite ∧ (entry .inputRead .none none).kind ≠ .setup .forceSafe ∧
    (entry .outputWrite .none (some (powered true true true))).carried ≠ none ∧
    (entry .probe .none none).kind ≠ .inputRead ∧ (Disturbance.dataHeld [(5, 0x1FF)]).lowBits 1 = 0 ∧
    (Disturbance.dataHeld [(5, 0x1FF)]).lowBits 2 = 0 := by decide

theorem witness_WireLevelsOfAttemptsAndPasses :
    (entry .outputWrite .none (some (powered true true true))).carried ≠ none ∧
    State.reset.resetLow = true ∧ (opened.engine 1).bus = .idle ∧ opened.resetLow = false ∧
    ((onWire resting (entry .inputRead .none none) 1).engine 0).bus =
      .active { entry := entry .inputRead .none none, ignored := false } 1 .khz100 none ∧
    ((recovering 1 none).engine 0).bus =
      .recovering { entry := entry .inputRead .none none, ignored := false } 1 1 .khz100 none := by decide

/-- Words for each result: DEBOUNCE 0; a release refused in ON; a plain change; AUTO_ON set on a bay that the
conditions of R30 hold for, and on one without a module; AUTO_IND set. -/
theorem witness_BayConfigurationWord :
    let blind : Bay := { resting with config := { resting.config with autoInd := false } }
    let bare : Bay := { resting with accepted := { resting.accepted with present := false } }
    (withBay blind).takesWord (Reg.bay 3 .config).addr = true ∧ (BayConfig.ofWord 0x0000001D).debounce = 0 ∧
    ((withBay { resting with power := .on }).bay 3).releaseRefused = true ∧
    (BayConfig.ofWord 0x0000101C).managed = false ∧ resting.config.managed = true ∧
    BayConfig.ofWord 0x0000101D = resting.config ∧
    (BayConfig.ofWord 0x0000201D).debounce ≠ 0 ∧ (BayConfig.ofWord 0x0000201D).managed = true ∧
    (BayConfig.ofWord 0x0000201D).autoOn = false ∧ resting.config.autoInd = true ∧
    BayConfig.ofWord 0x0000101F = { resting.config with autoOn := true } ∧
    resting.config.autoOn = false ∧ resting.accepted.latchClosed = true ∧ (withBay resting).classProfile 3 ≠ none ∧
    bare.accepted.present = false ∧ blind.indicatorMode = some .off ∧
    ((withBay blind).engine (busOf 3)).takes = true := by decide

theorem witness_ReleaseFromManagement :
    (BayConfig.ofWord 0x0000101C).debounce ≠ 0 ∧ (BayConfig.ofWord 0x0000101C).managed = false ∧
    resting.config.managed = true ∧ resting.releaseRefused = false ∧ resting.link = .bound ∧ resting.LinkOk ∧
    ({ Bay.reset with link := .lost } : Bay).LinkOk ∧ ({ Bay.reset with link := .probing } : Bay).LinkOk ∧
    ({ Bay.reset with link := .setup } : Bay).LinkOk ∧ Bay.reset.link = .absent ∧ Bay.reset.LinkOk ∧
    Bay.reset.releaseRefused = false ∧
    ((onWire resting (entry .inputRead .none none) 1).engine 0).bus.current.map (fun tx => tx.entry.bay) = some 3 := by
  unfold Bay.LinkOk
  decide

theorem witness_IgnoredTransactions :
    let tx : Tx := { entry := entry .outputWrite .none (some (powered true false false)), ignored := true }
    let s := opened.modifyEngine 0 fun g => { g with bus := .active tx 2 .khz100 none }
    let r := opened.modifyEngine 0 fun g => { g with bus := .recovering tx 2 1 .khz100 none }
    s.resetLow = false ∧ tx.ignored = true ∧ busOf tx.entry.bay = 0 ∧
    (s.engine 0).bus = .active tx 2 .khz100 none ∧ (r.engine 0).bus = .recovering tx 2 1 .khz100 none ∧
    ({ tx with entry := entry (.setup .seedingRead) .none none } : Tx).entry.kind = .setup .seedingRead := by decide

theorem witness_ProfileAndClassMapWords :
    opened.takesWord (Reg.profileA 0).addr = true ∧ opened.takesWord (Reg.profileB 3).addr = true ∧
    opened.takesWord Reg.classMap.addr = true ∧ 4 < (classField 0x50000000 7).toNat ∧
    ∀ c : Fin 8, (classField 0x43210000 c.val).toNat ≤ 4 := by decide

theorem links_of_resting : (withBay resting).LinksConsistent := by
  unfold State.LinksConsistent Bay.LinkOk
  decide

theorem witness_BusConfigurationWord :
    opened.takesWord (Reg.busConfig 1).addr = true ∧ BusConfig.ofWord 0x00640321 = none ∧
    BusConfig.ofWord 0x00640311 = some { enable := true, speed := .khz400, retryLimit := 3, pollInterval := 100 } ∧
    (withBay resting).takesWord (Reg.busConfig 0).addr = true ∧
    BusConfig.ofWord 0x00640300 = some { enable := false, speed := .khz100, retryLimit := 3, pollInterval := 100 } ∧
    ((withBay resting).engine 0).config.enable = true ∧ ((withBay resting).engine 0).bus ≠ .failed ∧
    (withBay resting).LinksConsistent := by
  exact ⟨by decide, by decide, by decide, by decide, by decide, by decide, by decide, links_of_resting⟩

/-- Line 2 is claimed by source 5 with EXCL: source 6 conflicts, source 5 does not. -/
theorem witness_RouterWords :
    let s : State := { opened with routing := opened.routing.set 5 { line := some 2, excl := true } }
    s.takesWord (Reg.routing 6).addr = true ∧ Route.ofWord 0x00000005 = none ∧ Route.ofWord 0x00000014 = none ∧
    Route.ofWord 0x00000002 = some { line := some 2, excl := false } ∧ (s.routing[5]).line = some 2 ∧
    (s.routing[5]).excl = true ∧ (∀ j : SourceId, j ≠ 5 → (s.routing[j]).line ≠ some 2) ∧
    opened.takesWord (Reg.lineControl 1).addr = true ∧
    (({ Line.reset with enable := true, pulse := true } : Line).pulsing = true) ∧ Line.reset.pulsing = false ∧
    bitOf 3 0 = true ∧ bitOf 3 1 = true ∧ bitOf 1 1 = false ∧ bitOf 2 0 = false := by decide

theorem witness_Takes :
    opened.takesWord Reg.take.addr = true ∧ (fieldOf 3 0 3).toNat = (3 : LineId).val ∧
    (fieldOf 4 0 3).toNat = 4 ∧ 4 < (fieldOf 5 0 3).toNat := by decide

theorem witness_RecordAppended :
    opened.events.records.any (fun r => r.absorbs (.bay 3) .button) = false ∧
    opened.events.records.length < 32 := by decide

theorem witness_RecordCoalesced :
    let q : EventQueue := { EventQueue.reset with records := [button] }
    q.records = [] ++ button :: [] ∧ Detail.button.kind.coalesces = true ∧ button.source = .bay 3 ∧
    button.detail.kind = Detail.button.kind ∧ q.Wf := by
  refine ⟨by decide, by decide, by decide, by decide, by decide, by decide, ?_⟩
  exact List.pairwise_singleton _ _

theorem witness_RecordDropped :
    let q : EventQueue := { EventQueue.reset with records := List.replicate 32 { button with detail := .bus true } }
    q.records.any (fun r => r.absorbs (.bay 3) .button) = false ∧ q.records.length = 32 := by decide

theorem witness_PulsePhases :
    opened.resetLow = false ∧
    ((opened.modifyLine 2 fun l => { l with phase := .high }).lines[2]).phase = .high ∧
    ((opened.modifyLine 2 fun l => { l with phase := .gap }).lines[2]).phase = .gap ∧
    movesLinesItself (.attemptNack 0) = false := by decide

theorem witness_HuntCommand :
    opened.takesWord Reg.globalCommand.addr = true ∧ maskBuses ⟨true, true⟩ = [0, 1] ∧
    (opened.engine 0).takes = true ∧ (opened.engine 1).takes = true ∧ (opened.engine 0).hunt = none ∧
    (opened.engine 1).hunt = none ∧
    ((opened.modifyEngine 1 fun g => { g with bus := .failed }).engine 1).takes = false ∧
    ((opened.startHunt 0).engine 0).hunt ≠ none ∧ ((opened.startHunt 0).engine 0).takes = true := by
  decide

theorem witness_BusRestartCommand :
    (withBay resting).takesWord Reg.globalCommand.addr = true ∧ maskBuses ⟨false, true⟩ = [1] ∧
    maskBuses ⟨true, false⟩ = [0] ∧ ((withBay resting).engine 0).config.enable = true ∧
    ((opened.modifyEngine 1 fun g => { g with config := { g.config with enable := false } }).engine 1).config.enable
      = false ∧ (withBay resting).LinksConsistent := by
  exact ⟨by decide, by decide, by decide, by decide, by decide, links_of_resting⟩

/-- One bay for each check of R51, in its order. -/
theorem witness_CommandsRefused :
    opened.takesWord (Reg.bay 3 .command).addr = true ∧
    BayCommand.powerOn.argsWellFormed { noArgs with indP := 1 } = false ∧
    BayCommand.powerOn.argsWellFormed noArgs = true ∧ Bay.reset.link ≠ .bound ∧
    ({ resting with slot := Slot.holding .refresh 1 none } : Bay).slot.inProgress = true ∧
    ({ resting with power := .on } : Bay).slot.inProgress = false ∧
    ({ resting with accepted := { resting.accepted with present := false } } : Bay).power = .off ∧
    resting.config.latchOff = true ∧
    ({ withBay resting with classMap := Vector.replicate 8 none } : State).classProfile 3 = none ∧
    ({ resting with power := .faulted, live := { fault := true, pgood := false } } : Bay).live.fault = true ∧
    BayCommand.unlock.argsWellFormed noArgs = true ∧ BayCommand.clearFault.argsWellFormed noArgs = true ∧
    8 < (9 : BitVec 4).toNat ∧ opened.takesWord Reg.globalCommand.addr = true ∧
    (3 : BitVec 4) ≠ 1 ∧ (3 : BitVec 4) ≠ 2 := by decide

theorem witness_PowerOnAccepted :
    (withBay resting).takesWord (Reg.bay 3 .command).addr = true ∧ resting.link = .bound ∧
    resting.slot.inProgress = false ∧ resting.accepted.present = true ∧ resting.accepted.latchClosed = true ∧
    (withBay resting).classProfile 3 ≠ none ∧ resting.power = .off ∧
    (withBay { resting with power := .cool }).classProfile 3 ≠ none := by decide

theorem witness_PowerOffAccepted :
    let heldOn : Bay := { resting with power := .cool, slot := Slot.holding .powerOn 1 none, pendingUp := true }
    let faulted : Bay := { resting with power := .faulted, stepGen := some 1 }
    let on : Bay := { resting with power := .on, confirmed := some (powered true true true) }
    let rising : Bay := { resting with power := .ramp, slot := Slot.holding .powerOn 1 none }
    (onWire rising (entry .outputWrite .none none) 1).writeUnderWay 3 = true ∧ rising.slot.runs .powerOn = true ∧
    (withBay resting).takesWord (Reg.bay 3 .command).addr = true ∧ heldOn.slot.runs .powerOn = true ∧
    faulted.reached 1 = false ∧ ({ faulted with stepGen := some 0 } : Bay).reached 0 = true ∧
    (onWire on (entry .outputWrite .none none) 1).writeUnderWay 3 = true ∧
    (withBay on).writeUnderWay 3 = false ∧ drainCase on.confirmedImage = some .r ∧
    ({ on with slot := Slot.holding .powerOn 1 none } : Bay).slot.runs .powerOn = true ∧
    drainCase ({ resting with power := .ramp } : Bay).confirmedImage = none ∧
    on.reached (if drainUpdate on.config on.confirmedImage .r on.target = on.target then on.targetGen
      else on.targetGen + 1) = false := by decide

theorem witness_OutputAndRefreshAccepted :
    (withBay resting).takesWord (Reg.bay 3 .command).addr = true ∧ resting.link = .bound ∧
    resting.slot.inProgress = false ∧ noArgs.aux0 = false ∧ noArgs.aux1 = false ∧ noArgs.indP = 0 ∧
    noArgs.indA = 0 ∧ resting.power = .off ∧ ((withBay resting).engine (busOf 3)).takes = true := by decide

theorem witness_ClearFaultAccepted :
    let x : Bay := { resting with power := .faulted, stepGen := some 1 }
    x.link = .bound ∧ x.slot.inProgress = false ∧ x.live.fault = false ∧ x.reached 1 = false ∧
    ({ x with stepGen := some 0 } : Bay).reached 0 = true ∧ ((withBay x).profileOf 3).cooldown ≠ 0 ∧
    ((quick x).profileOf 3).cooldown = 0 := by
  decide

theorem witness_RampAndClockExpiries :
    let ramp : Bay := { resting with power := .ramp, timer := due .rampWait }
    let clock : Bay := { resting with power := .clock, timer := due .clkToRst }
    let late : Bay := { resting with
      power := .ramp, timer := due .rampTimeout, target := { Image.allOff with pwrEn := true },
      slot := Slot.holding .powerOn 4 none }
    (withBay ramp).resetLow = false ∧ ((withBay ramp).bay 3).timer = some { purpose := .rampWait, left := 0 } ∧
    ramp.target.clkEn = false ∧ ramp.reached (ramp.targetGen + 1) = false ∧
    ((withBay clock).bay 3).timer = some { purpose := .clkToRst, left := 0 } ∧ clock.target.released = false ∧
    clock.reached (clock.targetGen + 1) = false ∧
    ((withBay late).bay 3).timer = some { purpose := .rampTimeout, left := 0 } ∧ late.power = .ramp ∧
    late.target.pwrEn = true ∧ late.link = .bound ∧ ((withBay late).engine (busOf 3)).takes = true ∧
    late.slot.runs .powerOn = true ∧ late.faultKind = .noFault := by decide

theorem witness_DrainStepExpiry :
    let x : Bay := { resting with power := .drain, timer := due .drainStep, step := some .r }
    x.confirmed = some (powered false false false) ∧ drainCase (powered false false false).image = none ∧
    drainCase (powered true true false).image = some .c ∧ drainCase (powered true false false).image = some .p ∧
    x.reached (x.targetGen + 1) = false ∧ ((withBay x).profileOf 3).cooldown ≠ 0 ∧
    ((quick x).profileOf 3).cooldown = 0 ∧ (quick x).autoStartReady 3 = false ∧
    ({ x with slot := Slot.holding .powerOff 2 none } : Bay).slot.runs .powerOff = true := by decide

theorem witness_CooldownExpiry :
    let x : Bay := { resting with power := .cool, timer := due .cooldown }
    let held : Bay := { x with pendingUp := true, slot := Slot.holding .powerOn 2 none }
    let gone : Bay := { held with accepted := { held.accepted with present := false } }
    let eager : Bay := { x with config := { x.config with autoOn := true } }
    (withBay x).autoStartReady 3 = false ∧ (withBay eager).classProfile 3 ≠ none ∧
    eager.accepted.present = true ∧ eager.accepted.latchClosed = true ∧ (withBay held).heldReady 3 = true ∧
    (withBay gone).heldReady 3 = false ∧ (withBay gone).autoStartReady 3 = false ∧
    gone.slot.runs .powerOn = true ∧ gone.timer = some { purpose := .cooldown, left := 0 } := by decide

/-- The debounced view of `resting`. -/
def restingView : View :=
  { present := true, latchClosed := true, pressed := false, aux0 := some true, aux1 := some true }

theorem witness_DebouncePollAndAlert :
    let x : Bay := { resting with candidate := some { view := restingView, phase := .timing 0 } }
    ((withBay x).bay 3).candidate = some { view := restingView, phase := .timing 0 } ∧ x.link = .bound ∧
    ((withBay x).engine (busOf 3)).takes = true ∧
    ((opened.modifyEngine 1 fun g => { g with poll := some 0 }).engine 1).poll = some 0 ∧
    (withBay resting).alerts[(0 : BusId)] = false ∧ ((withBay resting).engine 0).sweep = none ∧
    ((withBay resting).engine 0).takes = true ∧ busOf 3 = 0 ∧ ((withBay resting).bay 3).link = .bound ∧
    (∀ b : BayId, busOf b = 1 → ((withBay resting).bay b).link ≠ .bound) := by decide

theorem witness_BeginChoosesEntry :
    let read := entry .inputRead .none none
    let urgent : Entry := { entry .outputWrite .none none with urgent := true }
    let s := (withBay resting).modifyEngine 0 fun g => { g with queue := [read, urgent] }
    (s.engine 0).bus = .idle ∧ (s.engine 0).config.enable = true ∧ (s.engine 0).queue = [read] ++ urgent :: [] ∧
    (urgent.kind = .outputWrite ∧ urgent.urgent = true) ∧ read.kind ≠ .outputWrite := by decide

theorem witness_WriteCompletes :
    let w := powered true false false
    let e := entry .outputWrite .none (some w)
    let x : Bay := { resting with slot := Slot.holding .lock 2 (some 0) }
    let f : Bay := { resting with power := .faulted, slot := Slot.holding .clearFault 2 (some 0) }
    (onWire x e 1).OnWire 0 e 1 ∧ (onWire f e 1).OnWire 0 e 1 ∧ busOf 3 = 0 ∧ resting.slot.awaited = none ∧
    x.power = .off ∧ (w.gen - 0).toNat < 32768 ∧ 32768 ≤ (w.gen - 1).toNat := by
  refine ⟨⟨by decide, by decide⟩, ⟨by decide, by decide⟩, by decide, by decide, by decide, by decide, by decide⟩

theorem witness_WriteEndsPowerUpWait :
    let w := powered true true false
    let e := entry .outputWrite .none (some w)
    let x : Bay := { resting with power := .ramp, stepGen := some 0 }
    let s := onWire x e 1
    s.OnWire 0 e 1 ∧ x.timer = none ∧ x.slot.awaited = none ∧ (w.gen - 0).toNat < 32768 ∧
    (s.profileOf 3).rampMode = .fixed ∧
    (({ s with profiles := Vector.replicate 4 { Profile.reset with rampMode := .pgood } } : State).profileOf 3).rampMode
      = .pgood ∧
    x.target.released = false ∧ (powered true true true).image.released = true := by
  refine ⟨⟨by decide, by decide⟩, ?_⟩
  decide

theorem witness_WriteMovesDrain :
    let w := powered true false false
    let e := entry .outputWrite .none (some w)
    let x : Bay := { resting with power := .drain, step := some .c, stepGen := some 0, target := w.image }
    let s := onWire x e 1
    s.OnWire 0 e 1 ∧ x.slot.awaited = none ∧ x.timer = none ∧ (w.gen - 0).toNat < 32768 ∧
    (s.profileOf 3).drainStep ≠ 0 ∧
    (({ s with profiles := Vector.replicate 4 { Profile.reset with drainStep := 0 } } : State).profileOf 3).drainStep
      = 0 ∧
    drainCase w.image = some .p ∧ drainCase (powered false false false).image = none ∧
    genReached (some w) (if drainUpdate x.config w.image .p x.target = x.target then x.targetGen
      else x.targetGen + 1) = false := by
  refine ⟨⟨by decide, by decide⟩, ?_⟩
  decide

theorem witness_ReadCompletes :
    let e := entry .inputRead .none none
    let s := onWire resting e 1
    let on : Bay := { resting with power := .on }
    let ramp : Bay := { resting with power := .ramp, timer := some { purpose := .rampWait, left := 9 } }
    s.OnWire 0 e 1 ∧ s.mismatch 3 0 0x3F = false ∧ resting.power = .off ∧ (onWire on e 1).mismatch 3 0 0x3F = false ∧
    quietLevels.getLsbD 12 = true ∧ on.candidate = none ∧ ramp.timer.map SeqTimer.purpose ≠ some .rampTimeout ∧ quietLevels.getLsbD 11 = true ∧
    (View.ofLevels quietLevels resting.auxDirs).agrees resting.accepted = true ∧
    resting.confirmed = some (powered false false false) ∧ s.writeOutstanding 3 = false ∧
    (1 : Half) ≠ ((powered false false false).image.encode (powered false false false).dirs).output ∧
    (s.engine 0).config.enable = true := by
  refine ⟨⟨by decide, by decide⟩, ?_⟩
  decide

theorem witness_ReadJudgesLevels :
    let e := entry .inputRead .none none
    let on : Bay := { resting with power := .on, confirmed := some (powered true true true) }
    let ramp : Bay := { resting with power := .ramp, timer := some { purpose := .rampTimeout, left := 9 } }
    (onWire on e 1).OnWire 0 e 1 ∧ (onWire on e 1).mismatch 3 7 0x3F = false ∧ on.candidate = none ∧
    (0 : Half).getLsbD 11 = false ∧ (0x0800 : Half).getLsbD 11 = true ∧ (0x0800 : Half).getLsbD 12 = false ∧
    quietLevels.getLsbD 12 = true ∧ ramp.target.clkEn = false ∧ ramp.reached (ramp.targetGen + 1) = false ∧
    ({ resting with power := .faulted, slot := Slot.holding .clearFault 2 none } : Bay).slot.runs .clearFault
      = true := by
  refine ⟨⟨by decide, by decide⟩, ?_⟩
  decide

/-- A view with the module gone. -/
def goneView : View := { restingView with present := false }

theorem witness_ReadDebounces :
    let e := entry .inputRead { Waiters.none with debounce := true } none
    let x : Bay := { resting with candidate := some { view := goneView, phase := .confirming } }
    (onWire x e 1).OnWire 0 e 1 ∧ (onWire x e 1).mismatch 3 0 0x3F = false ∧ x.config.autoOn = false ∧
    View.ofLevels (quietLevels ||| 0x0100) x.auxDirs = goneView ∧
    (quietLevels ||| 0x0100).getLsbD 11 = true ∧ View.ofLevels quietLevels x.auxDirs ≠ goneView := by
  refine ⟨⟨by decide, by decide⟩, ?_⟩
  decide

theorem witness_AcceptanceActs :
    let e := entry .inputRead { Waiters.none with debounce := true } none
    let on : Bay := { resting with
      power := .on, confirmed := some (powered true true true),
      candidate := some { view := goneView, phase := .confirming } }
    let off : Bay := { resting with
      config := { resting.config with autoOn := true },
      accepted := { resting.accepted with present := false, moduleClass := none },
      candidate := some { view := restingView, phase := .confirming } }
    let ramp : Bay := { on with power := .ramp, confirmed := some (powered false false false) }
    (onWire on e 1).OnWire 0 e 1 ∧ (onWire on e 1).mismatch 3 7 0x3F = false ∧
    (quietLevels ||| 0x0100).getLsbD 11 = true ∧ (quietLevels ||| 0x0100).getLsbD 12 = true ∧
    (onWire ramp e 1).mismatch 3 0 0x3F = false ∧ ramp.timer = none ∧ drainCase ramp.confirmedImage = none ∧
    View.ofLevels (quietLevels ||| 0x0100) on.auxDirs = goneView ∧ on.config.surpriseOff = true ∧
    drainCase on.confirmedImage = some .r ∧
    on.reached (if drainUpdate on.config on.confirmedImage .r on.target = on.target then on.targetGen
      else on.targetGen + 1) = false ∧
    (onWire off e 1).mismatch 3 0 0x3F = false ∧ View.ofLevels quietLevels off.auxDirs = restingView ∧
    (restingView.accept off.accepted quietLevels).moduleClass = some 1 ∧
    (onWire off e 1).classMap[(1 : BitVec 3).toNat] ≠ none := by
  refine ⟨⟨by decide, by decide⟩, ?_⟩
  decide

theorem witness_SweepProgress :
    let e := entry .inputRead { Waiters.none with sweep := true } none
    let w := entry .outputWrite .none (some (powered false false false))
    let s := (onWire resting e 4).modifyEngine 0 fun g => { g with sweep := some [3] }
    s.OnWire 0 e 4 ∧ (s.bay 3).link = .bound ∧ (s.engine 0).config.retryLimit.toNat < 4 ∧
    s.mismatch 3 0 0x3F = false ∧ s.mismatch 3 1 0x3F = true ∧ (onWire resting w 4).OnWire 0 w 4 ∧
    (((recovering 1 none).modifyEngine 0 fun g => { g with config := { g.config with retryLimit := 0 } }).engine
      0).config.retryLimit.toNat < 1 := by
  refine ⟨⟨by decide, by decide⟩, by decide, by decide, by decide, by decide, ⟨by decide, by decide⟩, by decide⟩

/-- Bay 3 in a setup chain that has decided OFF. -/
def chained : Bay := { Bay.reset with link := .setup, chain := some { dirs := Dirs.inputs, decided := .off } }

theorem witness_ProbeAndIdent :
    let p := entry .probe .none none
    let i := entry (.setup .identRead) .none none
    (onWire { Bay.reset with link := .probing } p 1).OnWire 0 p 1 ∧ (onWire chained i 1).OnWire 0 i 1 ∧
    ((onWire chained i 1).engine 0).hunt = none ∧ ((onWire chained i 1).engine 0).config.enable = true := by
  refine ⟨⟨by decide, by decide⟩, ⟨by decide, by decide⟩, ?_⟩
  decide

theorem witness_SetupReadAndForceSafe :
    let i := entry (.setup .setupRead) .none none
    let f := entry (.setup .forceSafe) .none (some (powered false false false))
    let r : Regs := (powered true true true).image.encode Dirs.inputs
    (onWire chained i 1).OnWire 0 i 1 ∧ (onWire chained f 1).OnWire 0 f 1 ∧
    r.consistent Dirs.inputs = true ∧ (r.output.getLsbD 1 = r.output.getLsbD 0) ∧
    (r.output.getLsbD 2 = r.output.getLsbD 0) ∧
    ({ r with output := 1 } : Regs).output.getLsbD 1 ≠ ({ r with output := 1 } : Regs).output.getLsbD 0 := by
  refine ⟨⟨by decide, by decide⟩, ⟨by decide, by decide⟩, ?_⟩
  decide

/-- The seeding read of `x`, in a hunt of bay 3 alone. -/
def seeding (x : Bay) : State :=
  (onWire x (entry (.setup .seedingRead) .none none) 1).modifyEngine 0 fun g =>
    { g with hunt := some { hunted := [(3, .absent)], found := 1, bound := 0 } }

theorem witness_SeedingReadBinds :
    let e := entry (.setup .seedingRead) .none none
    let s := seeding chained
    s.OnWire 0 e 1 ∧ (s.bay 3).chain = some { dirs := Dirs.inputs, decided := .off } ∧
    quietLevels.getLsbD 11 = true ∧ (s.bay 3).config.autoOn = false ∧ (s.bay 3).target.indP = .off ∧
    s.hunted 3 = true := by
  refine ⟨⟨by decide, by decide⟩, ?_⟩
  decide

/-- A chain for each decided power state, and levels for each check after binding. -/
theorem witness_BindingActs :
    let e := entry (.setup .seedingRead) .none none
    let on : Bay := { chained with
      chain := some { dirs := Dirs.inputs, decided := .on }, confirmed := some (powered true true true),
      target := (powered true true true).image }
    let cool : Bay := { chained with chain := some { dirs := Dirs.inputs, decided := .cool } }
    let eager : Bay := { chained with config := { chained.config with autoOn := true } }
    let seeded (l : Half) := (View.ofLevels l Dirs.inputs).seed Bay.reset.accepted l
    (seeding on).OnWire 0 e 1 ∧ (seeding cool).OnWire 0 e 1 ∧ (seeding eager).OnWire 0 e 1 ∧
    quietLevels.getLsbD 8 = false ∧ quietLevels.getLsbD 11 = true ∧ quietLevels.getLsbD 12 = true ∧
    (0x3CC0 - 0x0800 : Half).getLsbD 11 = false ∧ (0x3CC0 - 0x1000 : Half).getLsbD 12 = false ∧
    (quietLevels ||| 0x0100).getLsbD 8 = true ∧ on.config.surpriseOff = true ∧ on.slot.inProgress = false ∧
    drainCase on.confirmedImage = some .r ∧
    drainUpdate on.config on.confirmedImage .r { on.target with indP := .on } ≠ { on.target with indP := .on } ∧
    on.reached (on.targetGen + 1) = false ∧ on.reached (on.targetGen + 2) = false ∧
    ((seeding cool).profileOf 3).cooldown ≠ 0 ∧ chained.config.autoOn = false ∧
    (seeded quietLevels).present = true ∧ (seeded quietLevels).latchClosed = true ∧
    (seeded quietLevels).moduleClass = some 1 ∧ (seeding eager).classMap[(1 : BitVec 3).toNat] ≠ none := by
  refine ⟨⟨by decide, by decide⟩, ⟨by decide, by decide⟩, ⟨by decide, by decide⟩, ?_⟩
  decide

theorem witness_FailedAttempts :
    let e := entry .inputRead .none none
    (onWire resting e 3).OnWire 0 e 3 ∧ (onWire resting e 4).OnWire 0 e 4 ∧
    3 ≤ ((onWire resting e 3).engine 0).config.retryLimit.toNat ∧
    ((onWire resting e 4).engine 0).config.retryLimit.toNat < 4 := by
  refine ⟨⟨by decide, by decide⟩, ⟨by decide, by decide⟩, ?_⟩
  decide

theorem witness_DiscoveryExhausted :
    let e := entry .probe .none none
    let h : Hunt := { hunted := [(3, .lost)], found := 0, bound := 0 }
    let s := (onWire { Bay.reset with link := .probing } e 4).modifyEngine 0 fun g => { g with hunt := some h }
    s.OnWire 0 e 4 ∧ (s.engine 0).config.retryLimit.toNat < 4 ∧ (s.engine 0).hunt = some h ∧
    s.huntOrigin 3 = some .lost ∧
    ((onWire chained (entry (.setup .setupRead) .none none) 4).engine 0).hunt = none ∧
    (entry (.setup .setupRead) .none none).kind = .setup .setupRead := by
  refine ⟨⟨by decide, by decide⟩, ?_⟩
  decide

theorem witness_ClockStretches :
    let e := entry .inputRead .none none
    let tx : Tx := { entry := e, ignored := false }
    let timed : State := (withBay resting).modifyEngine 0 fun g => { g with bus := .active tx 1 .khz100 (some 0) }
    ((onWire resting e 1).engine 0).bus = .active tx 1 .khz100 none ∧
    (timed.engine 0).bus = .active tx 1 .khz100 (some 0) ∧
    ((recovering 0 none).engine 0).bus = .recovering tx 1 0 .khz100 none ∧
    ((recovering 1 (some 0)).engine 0).bus = .recovering tx 1 1 .khz100 (some 0) ∧
    ((recovering 2 (some 0)).engine 0).bus = .recovering tx 1 2 .khz100 (some 0) := by decide

theorem witness_RecoveryPasses :
    let tx : Tx := { entry := entry .inputRead .none none, ignored := false }
    ((recovering 1 none).engine 0).bus = .recovering tx 1 1 .khz100 none ∧
    1 ≤ ((recovering 1 none).engine 0).config.retryLimit.toNat ∧
    ((recovering 2 none).engine 0).bus = .recovering tx 1 2 .khz100 none ∧
    (((recovering 1 none).modifyEngine 0 fun g => { g with config := { g.config with retryLimit := 0 } }).engine
      0).config.retryLimit.toNat < 1 ∧ busOf 3 = 0 ∧
    (recovering 2 none).LinksConsistent := by
  refine ⟨by decide, by decide, by decide, by decide, by decide, ?_⟩
  unfold State.LinksConsistent Bay.LinkOk
  decide

/-- A state with an exclusive route, a pulse under way, a bay on a bus in use, and a command to run. -/
def busy : State :=
  { onWire resting (entry .inputRead .none none) 1 with
    pending := [.timebaseTick], routing := opened.routing.set 5 { line := some 2, excl := true },
    lines := opened.lines.set 2 { Line.reset with enable := true, pulse := true, phase := .high, owed := true } }

theorem witness_StepKeepsQueueForm : busy.events.Wf := ⟨by decide, by decide, List.Pairwise.nil⟩

theorem witness_StepKeepsRoutingAndRanges :
    busy.RoutesExclusive ∧ busy.LinesSettled ∧ busy.TimesPositive ∧ busy.CountsBounded := by
  refine ⟨?_, ?_, ?_, ?_⟩
  · unfold State.RoutesExclusive
    decide
  · unfold State.LinesSettled Line.Settled
    decide
  · unfold State.TimesPositive
    decide
  · intro n
    fin_cases n
    · exact ⟨by decide, by decide⟩
    · trivial

theorem witness_StepKeepsLinksConsistent : busy.LinksConsistent := by
  unfold State.LinksConsistent Bay.LinkOk
  decide

theorem witness_StepKeepsQueueBounds :
    let s := busy.modifyEngine 0 fun g =>
      { g with queue := [entry .outputWrite .none none, entry .inputRead .none none] }
    s.LinksConsistent ∧ s.QueuesBounded := by
  unfold State.LinksConsistent Bay.LinkOk State.QueuesBounded Engine.QueueBounded
  decide

theorem witness_StepKeepsImagesLawful :
    resting.ImagesLawful ∧ (entry .inputRead .none none).CarriesLawful ∧ Bay.reset.ImagesLawful := by
  refine ⟨⟨by decide, ?_, by decide, by decide⟩, by rintro w ⟨⟩, ⟨by decide, by rintro w ⟨⟩, by decide, by decide⟩⟩
  rintro w ⟨⟩
  decide

theorem witness_steps_answer : ∃ t, step busy = .next t := ⟨_, rfl⟩

end Sys2Proof.Tests
end

/-! # The kinds of command

A command is a register word, which the port takes or ignores, an event that reset holds off, or an edge of a pin. -/

namespace Sys2Proof.Machine

/-- What the owner of its register does with the word of a command (R170); no effect for a command that is no
register word. -/
def wordOwner : Instr → State → State
  | .registerWrite a w => fun t => t.writeWord a w
  | .softReset w => fun t => t.writeControl w
  | .bayConfigurationWrite b w => fun t => t.writeBayConfig b w
  | .profileWrite p wordB w => fun t => t.writeProfile p wordB w
  | .classMapWrite w => fun t => t.writeClassMap w
  | .busConfigurationWrite n w => fun t => t.writeBusConfig n w
  | .routingEntryWrite i w => fun t => t.writeRoute i w
  | .lineControlWrite k w => fun t => t.writeLine k w
  | .takeLineWindow w => fun t => t.writeTake w
  | .takeAnyWindow w => fun t => t.writeTake w
  | .overflowClear w => fun t => t.clearOverflow w
  | .routeConflictClear w => fun t => t.clearRouteConflict w
  | .portErrorClear w => fun t => t.clearPortErrors w
  | .hunt m tag => fun t => t.takeHunt m tag
  | .busRestart m tag => fun t => t.takeRestart m tag
  | .powerOn b tag args => fun t => t.takeCommand b .powerOn tag args
  | .powerOff b tag args => fun t => t.takeCommand b .powerOff tag args
  | .setInd b tag args => fun t => t.takeCommand b .setInd tag args
  | .lock b tag args => fun t => t.takeCommand b .lock tag args
  | .unlock b tag args => fun t => t.takeCommand b .unlock tag args
  | .setAux b tag args => fun t => t.takeCommand b .setAux tag args
  | .clearFault b tag args => fun t => t.takeCommand b .clearFault tag args
  | .refresh b tag args => fun t => t.takeCommand b .refresh tag args
  | .undefinedBayCommand b code tag args => fun t => t.takeCommandCode b code tag args
  | .undefinedGlobalCommand code m tag => fun t => t.takeGlobal code m tag
  | _ => id

/-- A register word is a word event at its address; REGISTER_WRITE is none where no header can name its address. -/
theorem exec_of_wordAddr {c : Instr} {a : Addr} (h : c.wordAddr = some a) (s : State) :
    exec c s = s.wordEvent a (wordOwner c) ∨ exec c s = .next s := by
  cases c with
  | registerWrite a' w =>
    cases h
    by_cases ha : a.toNat % 4 = 0
    · exact .inl (if_pos ha)
    · exact .inr (if_neg ha)
  | _ => cases h <;> exact .inl rfl

/-- A command that is neither a register word nor an edge of a pin is an event that reset holds off. -/
theorem exec_of_event {c : Instr} (hw : c.wordAddr = none) (hp : actsWhileHeld c = false) (s : State) :
    ∃ t, exec c s = s.event t := by
  cases c <;> cases hw <;> cases hp <;> exact ⟨_, rfl⟩

/-- Settles O3: a held part ignores every event, and takes no word. -/
theorem ignoredCommands : Obligations.IgnoredCommands := by
  have hword : ∀ (c : Instr) (a : Addr) (s : State), c.wordAddr = some a → s.takesWord a = false →
      exec c s = .next s := fun c a s ha ht => by
    rcases exec_of_wordAddr ha s with h | h
    · rw [h, State.wordEvent_ignored s a _ ht]
    · exact h
  refine ⟨fun c s hlow hpin => ?_, hword⟩
  cases ha : c.wordAddr with
  | none =>
    obtain ⟨t, ht⟩ := exec_of_event ha hpin s
    rw [ht, State.event_held s t hlow]
  | some a =>
    refine hword c a s ha (Bool.eq_false_iff.mpr fun ht => ?_)
    rw [s.takesWord_resetLow a ht] at hlow
    cases hlow

end Sys2Proof.Machine

/-! # What one event may do to links and images

The two invariants of the bay table (R2, R3, R12, R50, R111) are proved together. Most operations leave every link
alone and queue nothing but requests of BOUND bays: `State.Keeps`. The others are judged by what they leave of both
invariants: `State.Preserves`. -/

namespace Sys2Proof.Machine

/-! ## What the invariants read -/

/-- The fields of a bay that the two invariants read. -/
def Bay.vitals (x : Bay) : LinkState × PowerState × Bool × Image × Option Written :=
  (x.link, x.power, x.slot.inProgress, x.target, x.confirmed)

theorem Bay.LinkOk.of_vitals {x y : Bay} (hx : x.LinkOk) (h : y.vitals = x.vitals) : y.LinkOk := by
  simp only [Bay.vitals, Prod.mk.injEq] at h
  obtain ⟨hl, hp, hi, _, _⟩ := h
  simpa only [Bay.LinkOk, hl, hp, hi] using hx

theorem Bay.ImagesLawful.of_vitals {x y : Bay} (hx : x.ImagesLawful) (h : y.vitals = x.vitals) :
    y.ImagesLawful := by
  simp only [Bay.vitals, Prod.mk.injEq] at h
  obtain ⟨_, hp, _, ht, hc⟩ := h
  simpa only [Bay.ImagesLawful, ht, hp, hc] using hx

/-- Outside RAMP and CLOCK the law of R12 on target and confirmed image is the whole invariant of a bay. -/
theorem Bay.ImagesLawful.of_steady {x : Bay} (ht : x.target.lawful = true)
    (hc : ∀ w, x.confirmed = some w → w.image.lawful = true) (hr : x.power ≠ .ramp) (hk : x.power ≠ .clock) :
    x.ImagesLawful :=
  ⟨ht, hc, fun h => absurd h hr, fun h => absurd h hk⟩

theorem Bay.LinkOk.of_eq {x y : Bay} (hx : x.LinkOk) (hl : y.link = x.link) (hp : y.power = x.power)
    (hs : y.slot = x.slot) : y.LinkOk := by
  simpa only [Bay.LinkOk, hl, hp, hs] using hx

theorem Bay.LinkOk.power_ne_unknown {x : Bay} (hx : x.LinkOk) : x.power ≠ .unknown ↔ x.link = .bound := by
  rw [ne_eq, hx.1, not_not]

theorem Bay.LinkOk.of_bound {x : Bay} (hl : x.link = .bound) (hp : x.power ≠ .unknown) : x.LinkOk :=
  ⟨by simp [hl, hp], fun _ => hl⟩

theorem Bay.LinkOk.of_unbound {x : Bay} (hl : x.link ≠ .bound) (hp : x.power = .unknown)
    (hs : x.slot.inProgress = false) : x.LinkOk :=
  ⟨by simp [hl, hp], by simp [hs]⟩

/-- A bus state holds the transaction that another held, or none; an ignored one stays ignored. -/
def BusState.Within (g' g : BusState) : Prop :=
  ∀ tx', g'.current = some tx' →
    ∃ tx, g.current = some tx ∧ tx'.entry = tx.entry ∧ (tx.ignored = true → tx'.ignored = true)

theorem BusState.Within.of_current {g' g : BusState} (h : g'.current = g.current) : g'.Within g :=
  fun tx' h' => ⟨tx', h ▸ h', rfl, id⟩

theorem BusState.Within.of_none {g' g : BusState} (h : g'.current = none) : g'.Within g :=
  fun tx' h' => by rw [h] at h'; cases h'

theorem BusState.Within.refl (g : BusState) : g.Within g := .of_current rfl

theorem BusState.Within.trans {g'' g' g : BusState} (h' : g''.Within g') (h : g'.Within g) : g''.Within g := by
  intro tx'' h''
  obtain ⟨tx', htx', he', hi'⟩ := h' tx'' h''
  obtain ⟨tx, htx, he, hi⟩ := h tx' htx'
  exact ⟨tx, htx, he'.trans he, hi' ∘ hi⟩

theorem BusState.ignore_within (g : BusState) : g.ignore.Within g := by
  intro tx' h'
  cases g with
  | active tx a sp st => cases h'; exact ⟨tx, rfl, rfl, fun _ => rfl⟩
  | recovering tx a p sp st => cases h'; exact ⟨tx, rfl, rfl, fun _ => rfl⟩
  | idle => cases h'
  | failed => cases h'

/-- The transaction that counts after is one that counted before. -/
theorem Engine.currentEntry_sublist {g' g : Engine} (h : g'.bus.Within g.bus) :
    g'.currentEntry.Sublist g.currentEntry := by
  unfold Engine.currentEntry
  cases hc : g'.bus.current with
  | none => exact List.nil_sublist _
  | some tx' =>
    obtain ⟨tx, htx, he, hi⟩ := h tx' hc
    rw [htx]
    cases hig : tx.ignored <;> cases hig' : tx'.ignored <;> simp_all

theorem Engine.mem_entries {g : Engine} {e : Entry} : e ∈ g.entries ↔ e ∈ g.currentEntry ∨ e ∈ g.queue :=
  List.mem_append

theorem Engine.entries_sublist {g' g : Engine} (hb : g'.bus.Within g.bus) (hq : g'.queue.Sublist g.queue) :
    g'.entries.Sublist g.entries :=
  (Engine.currentEntry_sublist hb).append hq

/-- Queue `q'` holds nothing beyond queue `q` of bus `n` but requests of BOUND bays of that bus (R111). -/
structure State.QueueGrows (s : State) (n : BusId) (q q' : List Entry) : Prop where
  known : ∀ e ∈ q', (∃ d ∈ q, e.bay = d.bay ∧ e.kind = d.kind ∧ e.carried = d.carried) ∨
    (busOf e.bay = n ∧ (s.bay e.bay).link = .bound ∧ e.kind.link = .bound ∧ e.carried = none)
  count : ∀ c, (s.bay c).link ≠ .bound → q'.countP (fun e => e.bay = c) ≤ q.countP (fun e => e.bay = c)

theorem State.QueueGrows.of_sublist {s : State} {n : BusId} {q q' : List Entry} (h : q'.Sublist q) :
    s.QueueGrows n q q' :=
  ⟨fun e he => .inl ⟨e, h.subset he, rfl, rfl, rfl⟩, fun _ _ => h.countP_le⟩

theorem State.QueueGrows.refl {s : State} {n : BusId} (q : List Entry) : s.QueueGrows n q q :=
  .of_sublist (List.Sublist.refl q)

theorem State.QueueGrows.trans {s t : State} {n : BusId} {q q' q'' : List Entry}
    (hl : ∀ c, (t.bay c).link = (s.bay c).link) (h : s.QueueGrows n q q') (h' : t.QueueGrows n q' q'') :
    s.QueueGrows n q q'' := by
  refine ⟨fun e he => ?_, fun c hc => (h'.count c (by rwa [hl])).trans (h.count c hc)⟩
  rcases h'.known e he with ⟨d, hd, hb, hk, hw⟩ | ⟨hn, hb, hk, hw⟩
  · rcases h.known d hd with ⟨d', hd', hb', hk', hw'⟩ | hnew
    · exact .inl ⟨d', hd', hb.trans hb', hk.trans hk', hw.trans hw'⟩
    · exact .inr (by rwa [hb, hk, hw])
  · exact .inr ⟨hn, by rwa [← hl], hk, hw⟩

/-- A map that leaves bay, kind and carried image of each entry alone. -/
theorem State.QueueGrows.of_map {s : State} {n : BusId} (q : List Entry) (f : Entry → Entry)
    (h : ∀ e, (f e).bay = e.bay ∧ (f e).kind = e.kind ∧ (f e).carried = e.carried) : s.QueueGrows n q (q.map f) := by
  refine ⟨fun e he => ?_, fun c _ => ?_⟩
  · obtain ⟨d, hd, rfl⟩ := List.mem_map.mp he
    exact .inl ⟨d, hd, h d⟩
  · rw [List.countP_map]
    exact le_of_eq (List.countP_congr fun e _ => by simp [(h e).1])

/-- A request of a BOUND bay at the back. -/
theorem State.QueueGrows.of_append {s : State} {n : BusId} (q : List Entry) (e : Entry) (hn : busOf e.bay = n)
    (hb : (s.bay e.bay).link = .bound) (hk : e.kind.link = .bound) (hw : e.carried = none) :
    s.QueueGrows n q (q ++ [e]) := by
  refine ⟨fun d hd => ?_, fun c hc => ?_⟩
  · rcases List.mem_append.mp hd with hd | hd
    · exact .inl ⟨d, hd, rfl, rfl, rfl⟩
    · rw [List.mem_singleton.mp hd]
      exact .inr ⟨hn, hb, hk, hw⟩
  · have hne : e.bay ≠ c := fun h => hc (h ▸ hb)
    simp [List.countP_append, hne]

theorem queueRead_grows {s : State} (b : BayId) (w : Waiters) (q : List Entry) (hb : (s.bay b).link = .bound) :
    s.QueueGrows (busOf b) q (queueRead q b w) := by
  unfold queueRead
  split
  · exact .of_map q _ fun e => by split <;> exact ⟨rfl, rfl, rfl⟩
  · exact .of_append q _ rfl hb rfl rfl

theorem queueWrite_grows {s : State} (b : BayId) (u : Bool) (q : List Entry) (hb : (s.bay b).link = .bound) :
    s.QueueGrows (busOf b) q (queueWrite q b u) := by
  unfold queueWrite
  split
  · exact .of_map q _ fun e => by split <;> exact ⟨rfl, rfl, rfl⟩
  · exact .of_append q _ rfl hb rfl rfl

/-! ## Events that leave the links alone -/

/-- No link changes, each bay stays as lawful as it was, and the engines take on nothing but requests of BOUND
bays. -/
structure State.Keeps (s t : State) : Prop where
  link : ∀ c, (t.bay c).link = (s.bay c).link
  linkOk : ∀ c, (s.bay c).LinkOk → (t.bay c).LinkOk
  images : ∀ c, (s.bay c).ImagesLawful → (t.bay c).ImagesLawful
  bus : ∀ n, (t.engine n).bus.Within (s.engine n).bus
  queue : ∀ n, s.QueueGrows n (s.engine n).queue (t.engine n).queue

theorem State.Keeps.trans {s t u : State} (h : s.Keeps t) (h' : t.Keeps u) : s.Keeps u where
  link c := (h'.link c).trans (h.link c)
  linkOk c := h'.linkOk c ∘ h.linkOk c
  images c := h'.images c ∘ h.images c
  bus n := (h'.bus n).trans (h.bus n)
  queue n := (h.queue n).trans h.link (h'.queue n)

/-- Nothing that the invariants read has changed. -/
theorem State.Keeps.of_frame {s t : State} (hb : t.bays = s.bays) (he : t.engines = s.engines) : s.Keeps t := by
  have hbay : ∀ c, t.bay c = s.bay c := fun c => by rw [State.bay, hb]; rfl
  have heng : ∀ n, t.engine n = s.engine n := fun n => by rw [State.engine, he]; rfl
  constructor <;> intro i <;> simp only [hbay, heng, imp_self]
  · exact .refl _
  · exact .refl _

theorem State.Keeps.refl (s : State) : s.Keeps s := .of_frame rfl rfl

theorem State.enqueue_keeps (s : State) (src : Source) (d : Detail) : s.Keeps (s.enqueue src d) := .of_frame rfl rfl

theorem State.modifyBay_keeps_of (s : State) (b : BayId) (f : Bay → Bay)
    (hl : (f (s.bay b)).link = (s.bay b).link) (hok : (s.bay b).LinkOk → (f (s.bay b)).LinkOk)
    (him : (s.bay b).ImagesLawful → (f (s.bay b)).ImagesLawful) : s.Keeps (s.modifyBay b f) where
  link c := by rw [State.modifyBay_bay]; split <;> simp_all
  linkOk c := by rw [State.modifyBay_bay]; split <;> simp_all
  images c := by rw [State.modifyBay_bay]; split <;> simp_all
  bus _ := .refl _
  queue _ := .refl _

theorem State.modifyBay_keeps (s : State) (b : BayId) (f : Bay → Bay)
    (h : ∀ x, (f x).vitals = x.vitals := by exact fun _ => rfl) :
    s.Keeps (s.modifyBay b f) :=
  s.modifyBay_keeps_of b f (congrArg Prod.fst (h _)) (fun hx => hx.of_vitals (h _)) (fun hx => hx.of_vitals (h _))

theorem State.modifyEngine_keeps (s : State) (n : BusId) (f : Engine → Engine)
    (hb : (f (s.engine n)).bus.Within (s.engine n).bus)
    (hq : s.QueueGrows n (s.engine n).queue (f (s.engine n)).queue) : s.Keeps (s.modifyEngine n f) where
  link _ := rfl
  linkOk _ := id
  images _ := id
  bus m := by
    rw [State.modifyEngine_engine]
    split
    · next h => rw [h]; exact hb
    · exact .refl _
  queue m := by
    rw [State.modifyEngine_engine]
    split
    · next h => rw [h]; exact hq
    · exact .refl _

/-- An update of an engine that leaves its bus state and its queue alone. -/
theorem State.modifyEngine_keeps_frame (s : State) (n : BusId) (f : Engine → Engine)
    (hb : ∀ e, (f e).bus = e.bus := by exact fun _ => rfl)
    (hq : ∀ e, (f e).queue = e.queue := by exact fun _ => rfl) : s.Keeps (s.modifyEngine n f) :=
  s.modifyEngine_keeps n f (by rw [hb]; exact .refl _) (by rw [hq]; exact .refl _)

theorem State.foldl_keeps {α : Type} (f : State → α → State) (h : ∀ (s : State) a, s.Keeps (f s a)) :
    ∀ (l : List α) (s : State), s.Keeps (l.foldl f s)
  | [], s => .refl s
  | a :: l, s => (h s a).trans (State.foldl_keeps f h l (f s a))

theorem State.requestRead_keeps (s : State) (b : BayId) (w : Waiters) : s.Keeps (s.requestRead b w) := by
  unfold State.requestRead
  split
  · next h =>
    simp only [Bool.and_eq_true, decide_eq_true_eq] at h
    exact s.modifyEngine_keeps _ _ (.refl _) (queueRead_grows b w _ h.1)
  · exact .refl s

theorem State.requestWrite_keeps (s : State) (b : BayId) (u : Bool) : s.Keeps (s.requestWrite b u) := by
  unfold State.requestWrite
  split
  · next h =>
    simp only [Bool.and_eq_true, decide_eq_true_eq] at h
    exact s.modifyEngine_keeps _ _ (.refl _) (queueWrite_grows b u _ h.1)
  · exact .refl s

/-- An update of the target, then an update of the bay that leaves its link alone: judged by the bay that results. -/
theorem State.retarget_keeps (s : State) (b : BayId) (f : Image → Image) (u : Bool) (g : Bay → Bay)
    (hl : ∀ x, (g x).link = x.link)
    (hok : ∀ x, x.link = (s.bay b).link → x.power = (s.bay b).power → x.slot = (s.bay b).slot →
      (s.bay b).LinkOk → (g x).LinkOk)
    (him : ∀ k, (s.bay b).ImagesLawful → (g { s.bay b with target := f (s.bay b).target, targetGen := k }).ImagesLawful) :
    s.Keeps ((s.updateTarget b f u).modifyBay b g) where
  link c := by
    rw [State.modifyBay_bay, State.updateTarget_bay]
    split
    · next h => rw [hl, h]
    · next h => rw [State.updateTarget_bay_ne _ _ _ _ _ h]
  linkOk c := by
    rw [State.modifyBay_bay, State.updateTarget_bay]
    split
    · next h => rw [h]; exact hok _ rfl rfl rfl
    · next h => rw [State.updateTarget_bay_ne _ _ _ _ _ h]; exact id
  images c := by
    rw [State.modifyBay_bay, State.updateTarget_bay]
    split
    · next h => rw [h]; exact him _
    · next h => rw [State.updateTarget_bay_ne _ _ _ _ _ h]; exact id
  bus n := by
    rw [State.modifyBay_engine]
    unfold State.updateTarget
    split
    · exact .refl _
    · exact (State.requestWrite_keeps _ b u).bus n
  queue n := by
    rw [State.modifyBay_engine]
    unfold State.updateTarget
    split
    · exact .refl _
    · refine State.QueueGrows.trans (t := s.modifyBay b _) (fun c => ?_) (.refl _)
        ((State.requestWrite_keeps _ b u).queue n)
      rw [State.modifyBay_bay]
      split
      · next h => rw [h]
      · rfl

/-- An update of the target that keeps the bay lawful. -/
theorem State.updateTarget_keeps (s : State) (b : BayId) (f : Image → Image) (u : Bool)
    (him : (s.bay b).ImagesLawful → ({ s.bay b with target := f (s.bay b).target } : Bay).ImagesLawful) :
    s.Keeps (s.updateTarget b f u) := by
  unfold State.updateTarget
  split
  · exact .refl s
  · exact (s.modifyBay_keeps_of b _ rfl id him).trans (State.requestWrite_keeps _ b u)

theorem State.completeCommand_keeps (s : State) (b : BayId) (r : CommandResult) : s.Keeps (s.completeCommand b r) := by
  have hbay : ∀ x : Bay, x.LinkOk → ∀ sl : Slot, sl.inProgress = false → ({ x with slot := sl } : Bay).LinkOk :=
    fun x hx sl hsl => ⟨hx.1, by simp [hsl]⟩
  unfold State.completeCommand
  dsimp only
  split
  · have hm := s.modifyBay_keeps_of b (fun x => { x with slot := { (s.bay b).slot with
        inProgress := false, awaited := none, lastResult := r, resultTag := (s.bay b).slot.tag } })
      rfl (fun hx => hbay _ hx _ rfl) id
    split
    · exact hm
    · exact hm.trans (State.enqueue_keeps _ _ _)
  · exact .refl s

/-! ## Sweeps and hunts -/

theorem State.startSweep_keeps (s : State) (n : BusId) : s.Keeps (s.startSweep n) := by
  unfold State.startSweep
  exact (State.foldl_keeps _ (fun t b => t.requestRead_keeps b _) _ s).trans
    (State.modifyEngine_keeps_frame _ n _)

theorem State.evalSweep_keeps (s : State) (n : BusId) : s.Keeps (s.evalSweep n) := by
  unfold State.evalSweep
  split
  · exact s.startSweep_keeps n
  · exact .refl s

theorem State.sweepLeave_keeps (s : State) (b : BayId) : s.Keeps (s.sweepLeave b) := by
  unfold State.sweepLeave
  split
  · exact .refl s
  · dsimp only
    split
    · exact (s.modifyEngine_keeps_frame _ _).trans (State.evalSweep_keeps _ _)
    · exact State.modifyEngine_keeps_frame s _ _

theorem State.huntLeave_keeps (s : State) (b : BayId) : s.Keeps (s.huntLeave b) :=
  State.modifyEngine_keeps_frame s _ _

theorem State.huntBound_keeps (s : State) (b : BayId) : s.Keeps (s.huntBound b) := by
  unfold State.huntBound
  split
  · exact (s.modifyEngine_keeps_frame _ _).trans (State.huntLeave_keeps _ b)
  · exact .refl s

theorem State.endHunt_keeps (s : State) (n : BusId) : s.Keeps (s.endHunt n) := by
  unfold State.endHunt
  split
  · exact .refl s
  · split
    · exact (s.enqueue_keeps _ _).trans (State.modifyEngine_keeps_frame _ n _)
    · exact .refl s

end Sys2Proof.Machine

/-! # The work of a BOUND bay keeps links and images -/

namespace Sys2Proof.Machine

/-! ## The updates of the target (R11, R12) -/

theorem Image.lawful_iff (i : Image) :
    i.lawful = true ↔ (i.released = true → i.clkEn = true) ∧ (i.clkEn = true → i.pwrEn = true) := by
  cases hr : i.released <;> cases hk : i.clkEn <;> simp [Image.lawful, hr, hk]

@[simp] theorem Image.autoInd_pwrEn (i : Image) (a : Bool) (m : IndMode) : (i.autoInd a m).pwrEn = i.pwrEn := by
  unfold Image.autoInd; split <;> rfl

@[simp] theorem Image.autoInd_clkEn (i : Image) (a : Bool) (m : IndMode) : (i.autoInd a m).clkEn = i.clkEn := by
  unfold Image.autoInd; split <;> rfl

@[simp] theorem Image.autoInd_released (i : Image) (a : Bool) (m : IndMode) :
    (i.autoInd a m).released = i.released := by
  unfold Image.autoInd; split <;> rfl

@[simp] theorem Image.autoInd_lawful (i : Image) (a : Bool) (m : IndMode) : (i.autoInd a m).lawful = i.lawful := by
  simp [Image.lawful]

theorem Image.powerOff_lawful (i : Image) : i.powerOff.lawful = true := rfl

theorem rampUpdate_lawful (c : BayConfig) (i : Image) (h : i.lawful = true) :
    (rampUpdate c i).lawful = true ∧ (rampUpdate c i).pwrEn = true := by
  rw [Image.lawful_iff] at h
  exact ⟨by simpa [rampUpdate, Image.lawful_iff] using h.1, by simp [rampUpdate]⟩

theorem clockUpdate_lawful (i : Image) (h : i.pwrEn = true) : (clockUpdate i).lawful = true := by
  simp [clockUpdate, Image.lawful_iff, h]

theorem releaseUpdate_lawful (c : BayConfig) (i : Image) (hp : i.pwrEn = true) (hk : i.clkEn = true) :
    (releaseUpdate c i).lawful = true ∧ (releaseUpdate c i).pwrEn = true ∧ (releaseUpdate c i).clkEn = true := by
  simp [releaseUpdate, Image.lawful_iff, hp, hk]

/-- A drain step switches off the first output still on, so nothing that depends on it stays on (R32). -/
theorem drainUpdate_lawful (c : BayConfig) (confirmed i : Image) (st : SeqStep) (hc : confirmed.lawful = true)
    (hst : drainCase confirmed = some st) : (drainUpdate c confirmed st i).lawful = true := by
  rw [Image.lawful_iff] at hc
  cases hr : confirmed.released <;> cases hk : confirmed.clkEn <;> cases hp : confirmed.pwrEn <;>
    simp_all [drainCase] <;> subst hst <;> simp [drainUpdate, Image.lawful_iff, hr, hk, hp]

theorem Bay.confirmedImage_lawful {x : Bay} (h : x.ImagesLawful) : x.confirmedImage.lawful = true := by
  unfold Bay.confirmedImage
  split
  · rfl
  · next w hw => exact h.2.1 w hw

/-- A target with the same power outputs is as lawful. -/
theorem Bay.ImagesLawful.of_samePower {x : Bay} (h : x.ImagesLawful) (i : Image) (hp : i.pwrEn = x.target.pwrEn)
    (hk : i.clkEn = x.target.clkEn) (hr : i.released = x.target.released) :
    ({ x with target := i } : Bay).ImagesLawful := by
  obtain ⟨ht, hc, hramp, hclock⟩ := h
  refine ⟨?_, hc, fun h => hp.trans (hramp h), fun h => ⟨hp.trans (hclock h).1, hk.trans (hclock h).2⟩⟩
  simpa only [Image.lawful, hp, hk, hr] using ht

/-! ## Work of a BOUND bay -/

/-- As long as bay `b` is BOUND, `t` keeps what `s` is. -/
def State.Serves (s : State) (b : BayId) (t : State) : Prop := (s.bay b).link = .bound → s.Keeps t

theorem State.Keeps.serves {s t : State} {b : BayId} (h : s.Keeps t) : s.Serves b t := fun _ => h

theorem State.Serves.trans {s t u : State} {b : BayId} (h : s.Serves b t) (h' : t.Serves b u) : s.Serves b u :=
  fun hb => (h hb).trans (h' (((h hb).link b).trans hb))

theorem State.Serves.keep {s t u : State} {b : BayId} (h : s.Serves b t) (h' : t.Keeps u) : s.Serves b u :=
  h.trans h'.serves

theorem State.Keeps.ite {s t u : State} {c : Prop} [Decidable c] (h : c → s.Keeps t) (h' : ¬ c → s.Keeps u) :
    s.Keeps (if c then t else u) := by
  split
  · next hc => exact h hc
  · next hc => exact h' hc

theorem State.Serves.ite {s t u : State} {b : BayId} {c : Prop} [Decidable c] (h : c → s.Serves b t)
    (h' : ¬ c → s.Serves b u) : s.Serves b (if c then t else u) := by
  split
  · next hc => exact h hc
  · next hc => exact h' hc

/-- An update that may move the power state of a BOUND bay, but not to UNKNOWN. -/
theorem State.modifyBay_serves (s : State) (b : BayId) (f : Bay → Bay) (hl : ∀ x, (f x).link = x.link)
    (hp : (f (s.bay b)).power ≠ .unknown) (him : (s.bay b).ImagesLawful → (f (s.bay b)).ImagesLawful) :
    s.Serves b (s.modifyBay b f) :=
  fun hb => s.modifyBay_keeps_of b f (hl _) (fun _ => .of_bound ((hl _).trans hb) hp) him

/-- As `modifyBay_serves`, with an update of the target before. -/
theorem State.retarget_serves (s : State) (b : BayId) (f : Image → Image) (u : Bool) (g : Bay → Bay)
    (hl : ∀ x, (g x).link = x.link) (hp : ∀ x, x.power = (s.bay b).power → (g x).power ≠ .unknown)
    (him : ∀ k, (s.bay b).ImagesLawful →
      (g { s.bay b with target := f (s.bay b).target, targetGen := k }).ImagesLawful) :
    s.Serves b ((s.updateTarget b f u).modifyBay b g) :=
  fun hb => s.retarget_keeps b f u g hl
    (fun x hxl hxp _ _ => .of_bound ((hl x).trans (hxl.trans hb)) (hp x hxp)) him

/-- An update of IND_P by the Sequencer (R41). -/
theorem State.updateTarget_autoInd_keeps (s : State) (b : BayId) (a : Bool) (m : IndMode) :
    s.Keeps (s.updateTarget b (fun i => i.autoInd a m) false) :=
  s.updateTarget_keeps b _ _ fun h => h.of_samePower _ (by simp) (by simp) (by simp)

/-! ## Power-up (R24 to R30) -/

theorem State.startTimer_keeps (s : State) (b : BayId) (p : SeqPurpose) (n : Nat) : s.Keeps (s.startTimer b p n) :=
  s.modifyBay_keeps b _

theorem State.rampWaitEnd_keeps (s : State) (b : BayId) : s.Keeps (s.rampWaitEnd b) := by
  unfold State.rampWaitEnd
  dsimp only
  split
  · exact s.startTimer_keeps b _ _
  · exact (s.startTimer_keeps b _ _).trans (State.requestRead_keeps _ b _)

theorem State.beginPowerUp_serves (s : State) (b : BayId) : s.Serves b (s.beginPowerUp b) := by
  have hprofile := s.modifyBay_keeps b fun x => { x with profile := s.classProfile b }
  have hramp : ∀ s1 : State, s1.Serves b ((s1.updateTarget b (rampUpdate (s.bay b).config) false).modifyBay b fun x =>
      { x with power := .ramp, timer := none, pendingUp := false, stepGen := some x.targetGen }) := fun s1 =>
    s1.retarget_serves b _ _ _ (fun _ => rfl) (fun _ _ => nofun) fun _ h =>
      have hr := rampUpdate_lawful (s.bay b).config (s1.bay b).target h.1
      ⟨hr.1, h.2.1, fun _ => hr.2, nofun⟩
  unfold State.beginPowerUp
  exact (hprofile.serves.trans (hramp _)).trans (.ite (fun _ => (State.rampWaitEnd_keeps _ b).serves)
    fun _ => (State.Keeps.refl _).serves)

theorem State.autoStart_serves (s : State) (b : BayId) : s.Serves b (s.autoStart b) :=
  .ite (fun _ => s.beginPowerUp_serves b) fun _ => (State.Keeps.refl s).serves

/-- The end of the ramp, of a bay in RAMP (R26). -/
theorem State.endOfRamp_serves (s : State) (b : BayId) (h : (s.bay b).power = .ramp) :
    s.Serves b (s.endOfRamp b) := by
  have hclock : s.Serves b ((s.updateTarget b clockUpdate false).modifyBay b fun x =>
      { x with power := .clock, timer := none, stepGen := some x.targetGen }) :=
    s.retarget_serves b _ _ _ (fun _ => rfl) (fun _ _ => nofun) fun _ hx =>
      ⟨clockUpdate_lawful _ (hx.2.2.1 h), hx.2.1, nofun, fun _ => ⟨hx.2.2.1 h, rfl⟩⟩
  unfold State.endOfRamp
  exact hclock.keep (.ite (fun _ => State.startTimer_keeps _ b _ _) fun _ => .refl _)

theorem State.enterOn_serves (s : State) (b : BayId) : s.Serves b (s.enterOn b) := by
  have hon : s.Serves b (s.modifyBay b fun x => { x with power := .on, timer := none, stepGen := none }) :=
    s.modifyBay_serves b _ (fun _ => rfl) nofun fun h => .of_steady h.1 h.2.1 nofun nofun
  unfold State.enterOn
  exact (hon.keep (.ite (fun _ => State.completeCommand_keeps _ b _) fun _ => .refl _)).keep
    (State.enqueue_keeps _ _ _)

/-- The end of CLK_TO_RST, of a bay in CLOCK (R28). -/
theorem State.releaseReset_serves (s : State) (b : BayId) (h : (s.bay b).power = .clock) :
    s.Serves b (s.releaseReset b) := by
  have hrelease : s.Serves b ((s.updateTarget b (releaseUpdate (s.bay b).config) false).modifyBay b fun x =>
      { x with timer := none, stepGen := some x.targetGen }) :=
    s.retarget_serves b _ _ _ (fun _ => rfl) (fun x hx => by simp [hx, h]) fun _ hx => by
      obtain ⟨hpwr, hclk⟩ := hx.2.2.2 h
      obtain ⟨hlaw, hpwr', hclk'⟩ := releaseUpdate_lawful (s.bay b).config _ hpwr hclk
      exact ⟨hlaw, hx.2.1, fun _ => hpwr', fun _ => ⟨hpwr', hclk'⟩⟩
  unfold State.releaseReset
  exact hrelease.trans (.ite (fun _ => State.enterOn_serves _ b) fun _ => (State.Keeps.refl _).serves)

/-! ## Cooldown (R34, R35) -/

theorem State.enterOff_serves (s : State) (b : BayId) : s.Serves b (s.enterOff b) := by
  have hoff : s.Serves b (s.modifyBay b fun x => { x with power := .off, timer := none, profile := none }) :=
    s.modifyBay_serves b _ (fun _ => rfl) nofun fun h => .of_steady h.1 h.2.1 nofun nofun
  unfold State.enterOff
  exact (hoff.keep (State.enqueue_keeps _ _ _)).trans (State.autoStart_serves _ b)

theorem State.abandonHeld_keeps (s : State) (b : BayId) : s.Keeps (s.abandonHeld b) := by
  unfold State.abandonHeld
  exact .ite (fun _ => (s.modifyBay_keeps b _).trans (State.completeCommand_keeps _ b _)) fun _ => .refl s

theorem State.cooldownEnds_serves (s : State) (b : BayId) : s.Serves b (s.cooldownEnds b) := by
  unfold State.cooldownEnds
  exact (s.abandonHeld_keeps b).serves.trans (.ite (fun _ => State.beginPowerUp_serves _ b)
    fun _ => State.enterOff_serves _ b)

theorem State.enterCool_serves (s : State) (b : BayId) (cause : Option StateCause) :
    s.Serves b (s.enterCool b cause) := by
  have hcool : s.Serves b (s.modifyBay b fun x => { x with power := .cool, timer := none }) :=
    s.modifyBay_serves b _ (fun _ => rfl) nofun fun h => .of_steady h.1 h.2.1 nofun nofun
  have hstep : ∀ t : State, t.Keeps (t.modifyBay b fun x => { x with step := none, stepGen := none }) :=
    fun t => t.modifyBay_keeps b _
  unfold State.enterCool
  refine .trans ?_ (.ite (fun _ => State.cooldownEnds_serves _ b) fun _ => (State.startTimer_keeps _ b _ _).serves)
  refine .keep ?_ (State.enqueue_keeps _ _ _)
  refine .keep ?_ (.ite (fun _ => State.abandonHeld_keeps _ b) fun _ => .refl _)
  refine .keep ?_ (.ite (fun _ => State.completeCommand_keeps _ b _) fun _ => .refl _)
  exact (hcool.keep (State.updateTarget_autoInd_keeps _ b _ _)).keep (hstep _)

/-! ## Power-down (R31 to R33) -/

/-- A bay in neither RAMP nor CLOCK: of its images the law of R12 alone is asked. -/
def Bay.Steady (x : Bay) : Prop := x.power ≠ .ramp ∧ x.power ≠ .clock

theorem State.drainDone_serves (s : State) (b : BayId) (h : (s.bay b).Steady) : s.Serves b (s.drainDone b) := by
  have hoff : s.Keeps (s.updateTarget b (drainCompletion (s.bay b).config) false) :=
    s.updateTarget_keeps b _ _ fun hx =>
      .of_steady (by simp [drainCompletion, Image.powerOff_lawful]) hx.2.1 h.1 h.2
  unfold State.drainDone
  exact hoff.serves.trans (State.enterCool_serves _ b _)

theorem State.drainStep_power (s : State) (b : BayId) (st : SeqStep) :
    ((s.drainStep b st).bay b).power = (s.bay b).power := by
  simp [State.drainStep, State.updateTarget_bay]

theorem State.drainStep_keeps (s : State) (b : BayId) (st : SeqStep) (h : (s.bay b).Steady)
    (hst : drainCase (s.bay b).confirmedImage = some st) : s.Keeps (s.drainStep b st) := by
  unfold State.drainStep
  exact s.retarget_keeps b _ _ _ (fun _ => rfl) (fun _ hl hp hs hx => hx.of_eq hl hp hs) fun _ hx =>
    .of_steady (drainUpdate_lawful _ _ _ st (Bay.confirmedImage_lawful hx) hst) hx.2.1 h.1 h.2

theorem State.drainCompute_serves (fuel : Nat) (s : State) (b : BayId) (h : (s.bay b).Steady) :
    s.Serves b (State.drainCompute fuel s b) := by
  induction fuel using Nat.strongRecOn generalizing s with
  | ind fuel ih =>
    unfold State.drainCompute
    split
    · exact s.drainDone_serves b h
    · next st hst =>
      have hstep := (s.drainStep_keeps b st h hst).serves (b := b)
      have hsteady : ((s.drainStep b st).bay b).Steady := by
        unfold Bay.Steady
        rwa [State.drainStep_power]
      refine hstep.trans (.ite (fun _ => .ite (fun _ => State.enterCool_serves _ b _)
        fun _ => .ite (fun _ => ?_) fun _ => (State.startTimer_keeps _ b _ _).serves) fun _ => (State.Keeps.refl _).serves)
      split
      · exact (State.Keeps.refl _).serves
      · next k => exact ih k (Nat.lt_succ_self k) _ hsteady

theorem State.drainWaitEnd_serves (s : State) (b : BayId) (st : SeqStep) (h : (s.bay b).Steady) :
    s.Serves b (s.drainWaitEnd b st) :=
  .ite (fun _ => s.enterCool_serves b _) fun _ => .ite (fun _ => State.drainCompute_serves _ s b h)
    fun _ => (s.startTimer_keeps b _ _).serves

theorem State.powerDown_serves (s : State) (b : BayId) : s.Serves b (s.powerDown b) := by
  have hdrain : ∀ t : State, t.Serves b (t.modifyBay b fun x =>
      { x with power := .drain, timer := none, step := none, stepGen := none }) := fun t =>
    t.modifyBay_serves b _ (fun _ => rfl) nofun fun h => .of_steady h.1 h.2.1 nofun nofun
  unfold State.powerDown
  refine .trans ?_ (.ite (fun _ => (State.Keeps.refl _).serves)
    fun _ => State.drainCompute_serves _ _ b (by simp [Bay.Steady]))
  exact State.Serves.trans (State.Keeps.ite (fun _ => s.completeCommand_keeps b _) fun _ => .refl s).serves (hdrain _)

/-! ## Faults (R42 to R46) -/

theorem State.takeFault_serves (s : State) (b : BayId) (kind : FaultKind) : s.Serves b (s.takeFault b kind) := by
  have hfault : s.Serves b ((s.updateTarget b (faultUpdate (s.bay b).config) true).modifyBay b fun x =>
      { x with timer := none, step := none, stepGen := some x.targetGen, power := .faulted,
               faultKind := if x.faultKind = .noFault then kind else x.faultKind,
               faultCount := satInc x.faultCount, pendingUp := false }) :=
    s.retarget_serves b _ _ _ (fun _ => rfl) (fun _ _ => nofun) fun _ h =>
      .of_steady (by simp [faultUpdate, Image.powerOff_lawful]) h.2.1 nofun nofun
  unfold State.takeFault
  exact ((hfault.keep (.ite (fun _ => State.completeCommand_keeps _ b _) fun _ => .refl _)).keep
    (State.enqueue_keeps _ _ _)).keep (State.enqueue_keeps _ _ _)

theorem State.faultCleared_serves (s : State) (b : BayId) : s.Serves b (s.faultCleared b) := by
  unfold State.faultCleared
  exact ((s.modifyBay_keeps b _).trans (State.completeCommand_keeps _ b _)).serves.trans
    (State.enterCool_serves _ b _)

theorem State.judgeLive_serves (s : State) (b : BayId) (before : Bool) : s.Serves b (s.judgeLive b before) := by
  have hnote : s.Keeps (if (s.bay b).live.fault then s else s.modifyBay b fun x => { x with idleNote := false }) :=
    .ite (fun _ => .refl s) fun _ => s.modifyBay_keeps b _
  have hpower : ((if (s.bay b).live.fault then s else s.modifyBay b fun x => { x with idleNote := false }).bay b).power =
      (s.bay b).power := by
    split <;> simp
  unfold State.judgeLive
  dsimp only
  generalize (if (s.bay b).live.fault then s else s.modifyBay b fun x => { x with idleNote := false }) = s0 at *
  have hstay : s.Serves b s0 := hnote.serves
  have hfault : ∀ kind, s.Serves b (s0.takeFault b kind) := fun kind => hstay.trans (s0.takeFault_serves b kind)
  have hidle : s.Serves b ((s0.modifyBay b fun x => { x with idleNote := true }).enqueue (.bay b)
      (.fault .fltInputIdle)) :=
    hstay.trans ((s0.modifyBay_keeps b _).trans (State.enqueue_keeps _ _ _)).serves
  split
  case h_1 hp =>
    have hend : s.Serves b (s0.endOfRamp b) := hstay.trans (s0.endOfRamp_serves b (by rw [hpower, hp]))
    exact .ite (fun _ => hfault _) fun _ => .ite (fun _ => hend) fun _ => hstay
  case h_2 | h_3 => exact .ite (fun _ => hfault _) fun _ => .ite (fun _ => hstay) fun _ => hfault _
  case h_4 => exact .ite (fun _ => hfault _) fun _ => hstay
  case h_5 =>
    refine .ite (fun _ => hstay.trans (State.Keeps.serves ?_)) fun _ => hstay
    exact .trans (.ite (fun _ => .refl _) fun _ => s0.modifyBay_keeps b _)
      (.ite (fun _ => State.completeCommand_keeps _ b _) fun _ => .refl _)
  case h_6 | h_7 => exact .ite (fun _ => hidle) fun _ => hstay
  case h_8 => exact hstay

end Sys2Proof.Machine

/-! # Tests, inputs and commands of a BOUND bay keep links and images -/

namespace Sys2Proof.Machine

/-! ## The tests at a write's completion (R22, R60, R116) -/

theorem State.sequencerTest_serves (s : State) (b : BayId) : s.Serves b (s.sequencerTest b) := by
  have hself : s.Serves b s := (State.Keeps.refl s).serves
  unfold State.sequencerTest
  dsimp only
  split
  · exact .ite (fun _ => (s.rampWaitEnd_keeps b).serves) fun _ => hself
  · exact .ite (fun _ => .ite (fun _ => s.enterOn_serves b) fun _ => (s.startTimer_keeps b _ _).serves) fun _ => hself
  · next hp =>
    have hsteady : (s.bay b).Steady := by simp [Bay.Steady, hp]
    split
    · exact s.drainCompute_serves _ b hsteady
    · exact .ite (fun _ => s.drainWaitEnd_serves b _ hsteady) fun _ => hself
  · exact hself

theorem State.awaitedTest_serves (s : State) (b : BayId) : s.Serves b (s.awaitedTest b) := by
  unfold State.awaitedTest
  dsimp only
  split
  · exact (State.Keeps.refl s).serves
  · exact .ite (fun _ => .ite (fun _ => s.faultCleared_serves b) fun _ => (s.completeCommand_keeps b _).serves)
      fun _ => (State.Keeps.refl s).serves

/-! ## Debounce and acceptance (R77 to R86) -/

theorem State.dropConfirming_keeps (s : State) (b : BayId) : s.Keeps (s.dropConfirming b) :=
  s.modifyEngine_keeps _ _ (.refl _) (.of_map _ _ fun e => by split <;> exact ⟨rfl, rfl, rfl⟩)

theorem State.startCandidate_keeps (s : State) (b : BayId) (v : View) : s.Keeps (s.startCandidate b v) :=
  s.modifyBay_keeps b _

theorem State.discardCandidate_keeps (s : State) (b : BayId) : s.Keeps (s.discardCandidate b) :=
  s.modifyBay_keeps b _

theorem State.automaticOff_serves (s : State) (b : BayId) (e : Bool) : s.Serves b (s.automaticOff b e) :=
  .ite (fun _ => s.powerDown_serves b) fun _ => (State.Keeps.refl s).serves

theorem State.presenceHandOff_serves (s : State) (b : BayId) : s.Serves b (s.presenceHandOff b) :=
  .ite (fun _ => s.autoStart_serves b) fun _ => s.automaticOff_serves b _

theorem State.latchHandOff_serves (s : State) (b : BayId) : s.Serves b (s.latchHandOff b) :=
  .ite (fun _ => s.autoStart_serves b) fun _ => s.automaticOff_serves b _

theorem State.acceptanceRecords_keeps (s : State) (b : BayId) (a : Accepted) : s.Keeps (s.acceptanceRecords b a) := by
  have htell : ∀ (t : State) (c : Prop) [Decidable c] (d : Detail), t.Keeps (if c then t.enqueue (.bay b) d else t) :=
    fun t c _ d => .ite (fun _ => t.enqueue_keeps _ _) fun _ => .refl t
  have hskip : ∀ (t : State) (c : Prop) [Decidable c] (d : Detail), t.Keeps (if c then t else t.enqueue (.bay b) d) :=
    fun t c _ d => .ite (fun _ => .refl t) fun _ => t.enqueue_keeps _ _
  unfold State.acceptanceRecords
  exact (((hskip s _ _).trans (hskip _ _ _)).trans (htell _ _ _)).trans (hskip _ _ _)

theorem State.acceptView_serves (s : State) (b : BayId) (v : View) (levels : Half) :
    s.Serves b (s.acceptView b v levels) := by
  unfold State.acceptView
  refine .trans (.trans ?_ (.ite (fun _ => (State.Keeps.refl _).serves) fun _ => State.presenceHandOff_serves _ b))
    (.ite (fun _ => (State.Keeps.refl _).serves) fun _ => State.latchHandOff_serves _ b)
  exact ((s.modifyBay_keeps b _).trans (State.acceptanceRecords_keeps _ b _)).serves

theorem State.debounce_serves (s : State) (b : BayId) (v : View) (levels : Half) (confirming : Bool) :
    s.Serves b (s.debounce b v levels confirming) := by
  have hself : s.Serves b s := (State.Keeps.refl s).serves
  have hstart := (s.startCandidate_keeps b v).serves (b := b)
  have hdiscard := (s.discardCandidate_keeps b).serves (b := b)
  unfold State.debounce
  dsimp only
  split
  · exact .ite (fun _ => hself) fun _ => hstart
  · split
    · exact .ite (fun _ => hself) fun _ => .ite (fun _ => hdiscard) fun _ => hstart
    · exact .ite (fun _ => .ite (fun _ => s.acceptView_serves b v levels) fun _ => hself) fun _ =>
        .ite (fun _ => hdiscard.keep (State.dropConfirming_keeps _ b)) fun _ =>
          hstart.keep (State.dropConfirming_keeps _ b)

theorem State.sampleRead_keeps (s : State) (b : BayId) (levels : Half) : s.Keeps (s.sampleRead b levels) :=
  s.modifyBay_keeps b _

theorem State.answerWaiters_keeps (s : State) (b : BayId) (w : Waiters) : s.Keeps (s.answerWaiters b w) := by
  unfold State.answerWaiters
  exact State.Keeps.trans (.ite (fun _ => s.completeCommand_keeps b _) fun _ => .refl s)
    (.ite (fun _ => State.sweepLeave_keeps _ b) fun _ => .refl _)

theorem State.confirmCandidate_keeps (s : State) (b : BayId) : s.Keeps (s.confirmCandidate b) := by
  unfold State.confirmCandidate
  exact (s.modifyBay_keeps b _).trans (State.requestRead_keeps _ b _)

theorem State.pollReads_keeps (s : State) (n : BusId) : s.Keeps (s.pollReads n) :=
  State.foldl_keeps _ (fun t b => t.requestRead_keeps b _) _ s

/-! ## Bay commands (R51 to R69) -/

theorem State.refuseCommand_keeps (s : State) (b : BayId) (r : CommandResult) (tag : Byte) :
    s.Keeps (s.refuseCommand b r tag) :=
  s.modifyBay_keeps b _

/-- A BOUND bay may have a command in progress (R50). -/
theorem State.takeSlot_serves (s : State) (b : BayId) (c : BayCommand) (tag : Byte) :
    s.Serves b (s.takeSlot b c tag) :=
  fun hb => s.modifyBay_keeps_of b _ rfl (fun hx => .of_bound hb (hx.power_ne_unknown.mpr hb)) id

theorem State.await_serves (s : State) (b : BayId) (g : Option Half) : s.Serves b (s.await b g) := by
  unfold State.await
  exact (s.modifyBay_keeps b _).serves.trans (State.awaitedTest_serves _ b)

/-- An output command whose update leaves the power outputs alone (R64 to R67). -/
theorem State.outputEffect_serves (s : State) (b : BayId) (f : Image → Image)
    (hf : ∀ i, (f i).pwrEn = i.pwrEn ∧ (f i).clkEn = i.clkEn ∧ (f i).released = i.released) :
    s.Serves b (s.outputEffect b f) := by
  have hupdate : s.Keeps (s.updateTarget b f false) :=
    s.updateTarget_keeps b f _ fun h => h.of_samePower _ (hf _).1 (hf _).2.1 (hf _).2.2
  unfold State.outputEffect
  exact hupdate.serves.trans (State.await_serves _ b _)

theorem State.powerOnEffect_serves (s : State) (b : BayId) : s.Serves b (s.powerOnEffect b) := by
  unfold State.powerOnEffect
  split
  · exact s.beginPowerUp_serves b
  · exact (s.modifyBay_keeps b _).serves
  · exact (s.modifyBay_keeps b _).serves
  · exact (State.Keeps.refl s).serves

theorem State.overtakePowerOn_keeps (s : State) (b : BayId) : s.Keeps (s.overtakePowerOn b) := by
  unfold State.overtakePowerOn
  exact .ite (fun _ => (s.modifyBay_keeps b _).trans (State.completeCommand_keeps _ b _)) fun _ => .refl s

theorem State.powerOffEffect_serves (s : State) (b : BayId) (held : Bool) : s.Serves b (s.powerOffEffect b held) := by
  have hdone := (s.completeCommand_keeps b .done).serves (b := b)
  have hself : s.Serves b s := (State.Keeps.refl s).serves
  unfold State.powerOffEffect
  split
  · exact s.powerDown_serves b
  · exact s.powerDown_serves b
  · exact s.powerDown_serves b
  · exact .ite (fun _ => hdone) fun _ => hself
  · exact hdone
  · exact hdone
  · exact s.await_serves b _
  · exact hself

theorem State.firstEffect_serves (s : State) (b : BayId) (c : BayCommand) (args : CommandArgs) (held : Bool) :
    s.Serves b (s.firstEffect b c args held) := by
  cases c with
  | powerOn => exact s.powerOnEffect_serves b
  | powerOff => exact s.powerOffEffect_serves b held
  | setInd => exact s.outputEffect_serves b _ fun _ => ⟨rfl, rfl, rfl⟩
  | lock => exact s.outputEffect_serves b _ fun _ => ⟨rfl, rfl, rfl⟩
  | unlock => exact s.outputEffect_serves b _ fun _ => ⟨rfl, rfl, rfl⟩
  | setAux => exact s.outputEffect_serves b _ fun _ => ⟨rfl, rfl, rfl⟩
  | clearFault => exact s.await_serves b _
  | refresh => exact (s.requestRead_keeps b _).serves

theorem State.acceptCommand_serves (s : State) (b : BayId) (c : BayCommand) (tag : Byte) (args : CommandArgs) :
    s.Serves b (s.acceptCommand b c tag args) :=
  ((s.overtakePowerOn_keeps b).serves.trans (State.takeSlot_serves _ b c tag)).trans
    (State.firstEffect_serves _ b c args _)

/-- A command that passes the checks is one of a BOUND bay (R53). -/
theorem State.link_of_commandCheck_none {s : State} {b : BayId} {c : BayCommand} {args : CommandArgs}
    (h : s.commandCheck b c args = none) : (s.bay b).link = .bound := by
  unfold State.commandCheck at h
  by_contra hne
  by_cases hargs : c.argsWellFormed args <;> simp [hargs, hne] at h

theorem State.takeCommand_keeps (s : State) (b : BayId) (c : BayCommand) (tag : Byte) (args : CommandArgs) :
    s.Keeps (s.takeCommand b c tag args) := by
  unfold State.takeCommand
  split
  · exact s.refuseCommand_keeps b _ tag
  · next h => exact s.acceptCommand_serves b c tag args (State.link_of_commandCheck_none h)

theorem State.takeCommandCode_keeps (s : State) (b : BayId) (code : BitVec 4) (tag : Byte) (args : CommandArgs) :
    s.Keeps (s.takeCommandCode b code tag args) := by
  unfold State.takeCommandCode
  split
  · exact s.refuseCommand_keeps b _ tag
  · exact s.takeCommand_keeps b _ tag args

/-! ## Binding and configuration of a BOUND bay (R6, R137, R138) -/

theorem State.correctIndicator_keeps (s : State) (b : BayId) : s.Keeps (s.correctIndicator b) := by
  unfold State.correctIndicator
  refine .ite (fun _ => ?_) fun _ => .refl s
  split
  · exact .refl s
  · exact s.updateTarget_keeps b _ _ fun h => h.of_samePower _ rfl rfl rfl

theorem State.bindPower_serves (s : State) (b : BayId) (dec : Decided) : s.Serves b (s.bindPower b dec) := by
  cases dec with
  | cool => exact s.enterCool_serves b _
  | on => exact ((s.updateTarget_autoInd_keeps b _ _).trans (State.enqueue_keeps _ _ _)).serves
  | off => exact ((s.updateTarget_autoInd_keeps b _ _).trans (State.enqueue_keeps _ _ _)).serves

theorem State.bindChecks_serves (s : State) (b : BayId) : s.Serves b (s.bindChecks b) := by
  unfold State.bindChecks
  refine .keep (.trans (.trans (.ite (fun _ => s.takeFault_serves b _) fun _ => (State.Keeps.refl s).serves)
    (.ite (fun _ => State.powerDown_serves _ b) fun _ => (State.Keeps.refl _).serves))
    (State.autoStart_serves _ b)) (.ite (fun _ => State.enqueue_keeps _ _ _) fun _ => .refl _)

end Sys2Proof.Machine

/-! # Events that move links, and the transactions of the buses -/

namespace Sys2Proof.Machine

/-! ## Keeping the two invariants -/

/-- From a state with consistent links, `t` has consistent links, and lawful images where they were lawful. -/
structure State.Preserves (s t : State) : Prop where
  links : s.LinksConsistent → t.LinksConsistent
  images : s.LinksConsistent → s.ImagesLawful → t.ImagesLawful

theorem State.Preserves.refl (s : State) : s.Preserves s := ⟨id, fun _ => id⟩

theorem State.Preserves.trans {s t u : State} (h : s.Preserves t) (h' : t.Preserves u) : s.Preserves u :=
  ⟨fun hs => h'.links (h.links hs), fun hs hi => h'.images (h.links hs) (h.images hs hi)⟩

theorem State.Preserves.of_consistent {s t : State} (h : s.LinksConsistent → s.Preserves t) : s.Preserves t :=
  ⟨fun hs => (h hs).links hs, fun hs => (h hs).images hs⟩

theorem State.Preserves.ite {s t u : State} {c : Prop} [Decidable c] (h : c → s.Preserves t)
    (h' : ¬ c → s.Preserves u) : s.Preserves (if c then t else u) := by
  split
  · next hc => exact h hc
  · next hc => exact h' hc

theorem State.foldl_preserves {α : Type} (f : State → α → State) (h : ∀ (s : State) a, s.Preserves (f s a)) :
    ∀ (l : List α) (s : State), s.Preserves (l.foldl f s)
  | [], s => .refl s
  | a :: l, s => (h s a).trans (State.foldl_preserves f h l (f s a))

theorem State.LinksConsistent.of_links {s t : State} (h : s.LinksConsistent)
    (hlink : ∀ c, (t.bay c).link = (s.bay c).link) (hok : ∀ c, (s.bay c).LinkOk → (t.bay c).LinkOk)
    (hbus : ∀ n, (t.engine n).bus.Within (s.engine n).bus)
    (hqueue : ∀ n, s.QueueGrows n (s.engine n).queue (t.engine n).queue) : t.LinksConsistent := by
  obtain ⟨hbays, hentries, hcount⟩ := h
  refine ⟨fun c => hok c (hbays c), fun n e he => ?_, fun c hc => ?_⟩
  · rw [hlink]
    rcases Engine.mem_entries.mp he with he | he
    · exact hentries n e (Engine.mem_entries.mpr (.inl ((Engine.currentEntry_sublist (hbus n)).subset he)))
    · rcases (hqueue n).known e he with ⟨d, hd, hb, hk, _⟩ | ⟨hn, hb, hk, _⟩
      · rw [hb, hk]
        exact hentries n d (Engine.mem_entries.mpr (.inr hd))
      · exact ⟨hn, hb.trans hk.symm⟩
  · rw [hlink] at hc
    have hne : (s.bay c).link ≠ .bound := by rcases hc with hc | hc <;> simp [hc]
    have hcur := (Engine.currentEntry_sublist (hbus (busOf c))).countP_le (p := fun e => decide (e.bay = c))
    have hq := (hqueue (busOf c)).count c hne
    have hs := hcount c hc
    simp only [Engine.entries, List.countP_append] at hs ⊢
    omega

theorem State.ImagesLawful.of_carried {s t : State} (h : s.ImagesLawful)
    (hbay : ∀ c, (s.bay c).ImagesLawful → (t.bay c).ImagesLawful)
    (hbus : ∀ n, (t.engine n).bus.Within (s.engine n).bus)
    (hqueue : ∀ n, ∀ e ∈ (t.engine n).queue, e.carried = none ∨ ∃ d ∈ (s.engine n).queue, e.carried = d.carried) :
    t.ImagesLawful := by
  obtain ⟨hbays, hq, hcur⟩ := h
  refine ⟨fun c => hbay c (hbays c), fun n e he w hw => ?_, fun n tx' htx' => ?_⟩
  · rcases hqueue n e he with hnone | ⟨d, hd, hcd⟩
    · rw [hnone] at hw; cases hw
    · exact hq n d hd w (hcd ▸ hw)
  · obtain ⟨tx, htx, he, _⟩ := hbus n tx' htx'
    rw [he]
    exact hcur n tx htx

theorem State.Keeps.preserves {s t : State} (h : s.Keeps t) : s.Preserves t where
  links hs := hs.of_links h.link h.linkOk h.bus h.queue
  images _ hi := hi.of_carried h.images h.bus fun n e he => by
    rcases (h.queue n).known e he with ⟨d, hd, _, _, hw⟩ | ⟨_, _, _, hw⟩
    · exact .inr ⟨d, hd, hw⟩
    · exact .inl hw

theorem State.Preserves.keep {s t u : State} (h : s.Preserves t) (h' : t.Keeps u) : s.Preserves u :=
  h.trans h'.preserves

/-- A bay whose power state is not UNKNOWN is BOUND (R3). -/
theorem State.LinksConsistent.link_eq_bound {s : State} (h : s.LinksConsistent) {b : BayId}
    (hp : (s.bay b).power ≠ .unknown) : (s.bay b).link = .bound :=
  (h.1 b).power_ne_unknown.mp hp

theorem State.Serves.preserves {s t : State} {b : BayId} (h : s.Serves b t) (hp : (s.bay b).power ≠ .unknown) :
    s.Preserves t :=
  .of_consistent fun hs => (h (hs.link_eq_bound hp)).preserves

/-! ## A bay with no transaction -/

/-- No transaction of bay `b` that counts is queued, in flight or held. -/
def State.Clear (s : State) (b : BayId) : Prop := ∀ e ∈ (s.engine (busOf b)).entries, e.bay ≠ b

theorem State.Clear.modifyBay {s : State} {b : BayId} (h : s.Clear b) (c : BayId) (f : Bay → Bay) :
    (s.modifyBay c f).Clear b := h

theorem State.Clear.modifyEngine {s : State} {b : BayId} (h : s.Clear b) (n : BusId) (f : Engine → Engine)
    (hb : ∀ e, (f e).bus = e.bus := by exact fun _ => rfl)
    (hq : ∀ e, (f e).queue = e.queue := by exact fun _ => rfl) : (s.modifyEngine n f).Clear b := by
  intro e he
  rw [State.modifyEngine_engine] at he
  split at he
  · next hn =>
    rw [Engine.entries, Engine.currentEntry, hb, hq, ← hn] at he
    exact h e he
  · exact h e he

/-- Requests are queued for BOUND bays alone, so a bay without link stays without transaction. -/
theorem State.Keeps.clear {s t : State} (h : s.Keeps t) {b : BayId} (hl : (s.bay b).link ≠ .bound)
    (hc : s.Clear b) : t.Clear b := by
  intro e he heb
  rcases Engine.mem_entries.mp he with he | he
  · exact hc e (Engine.mem_entries.mpr (.inl ((Engine.currentEntry_sublist (h.bus _)).subset he))) heb
  · rcases (h.queue _).known e he with ⟨d, hd, hb, _, _⟩ | ⟨_, hb, _, _⟩
    · exact hc d (Engine.mem_entries.mpr (.inr hd)) (hb.symm.trans heb)
    · exact hl (heb ▸ hb)

/-- A bay that is ABSENT or LOST has no transaction (R2, R111). -/
theorem State.LinksConsistent.clear {s : State} (h : s.LinksConsistent) {b : BayId}
    (hl : (s.bay b).link = .absent ∨ (s.bay b).link = .lost) : s.Clear b := by
  intro e he heb
  have hk := (h.2.1 _ e he).2
  rw [heb] at hk
  cases hkind : e.kind <;> rcases hl with hl | hl <;> simp [hkind, hl, TxKind.link] at hk

/-- Bay `b` has changed and has no transaction left; no engine has taken on anything. -/
theorem State.Preserves.of_removed {s t : State} {b : BayId} (hne : ∀ c, c ≠ b → t.bay c = s.bay c)
    (hok : (s.bay b).LinkOk → (t.bay b).LinkOk) (him : (s.bay b).ImagesLawful → (t.bay b).ImagesLawful)
    (hbus : ∀ n, (t.engine n).bus.Within (s.engine n).bus)
    (hqueue : ∀ n, (t.engine n).queue.Sublist (s.engine n).queue) (hclear : t.Clear b) : s.Preserves t where
  links hs := by
    obtain ⟨hbays, hentries, hcount⟩ := hs
    have hsub : ∀ n, (t.engine n).entries.Sublist (s.engine n).entries := fun n =>
      Engine.entries_sublist (hbus n) (hqueue n)
    refine ⟨fun c => ?_, fun n e he => ?_, fun c hc => ?_⟩
    · by_cases h : c = b
      · rw [h]; exact hok (hbays b)
      · rw [hne c h]; exact hbays c
    · obtain ⟨hn, hk⟩ := hentries n e ((hsub n).subset he)
      have hb : e.bay ≠ b := fun h => hclear e (by rwa [← h, hn]) h
      exact ⟨hn, by rwa [hne _ hb]⟩
    · by_cases h : c = b
      · rw [h, List.countP_eq_zero.mpr fun e he => by simpa using hclear e he]
        exact Nat.zero_le 1
      · rw [hne c h] at hc
        exact ((hsub _).countP_le).trans (hcount c hc)
  images _ hi := hi.of_carried
    (fun c hc => by
      by_cases h : c = b
      · rw [h] at hc ⊢; exact him hc
      · rwa [hne c h])
    hbus fun n e he => .inr ⟨e, (hqueue n).subset he, rfl⟩

/-- A bay without transaction moves from one link state to another, neither of them BOUND. -/
theorem State.relink_preserves (s : State) (b : BayId) (f : Bay → Bay) (hl : (s.bay b).link ≠ .bound)
    (hclear : s.Clear b) (hl' : ∀ x, (f x).link ≠ .bound := by exact fun _ => nofun)
    (hf : ∀ x, (f x).vitals = { x with link := (f x).link }.vitals := by exact fun _ => rfl) :
    s.Preserves (s.modifyBay b f) := by
  refine .of_removed (fun c hc => s.modifyBay_bay_ne b c f hc) (fun hx => ?_) (fun hx => ?_) (fun _ => .refl _)
    (fun _ => List.Sublist.refl _) hclear
  · rw [State.modifyBay_bay_self]
    have hv := hf (s.bay b)
    simp only [Bay.vitals, Prod.mk.injEq] at hv
    obtain ⟨_, hp, hi, _, _⟩ := hv
    refine .of_unbound (hl' _) (hp.trans (hx.1.mpr hl)) (hi.trans ?_)
    exact Bool.eq_false_iff.mpr fun h => hl (hx.2 h)
  · rw [State.modifyBay_bay_self]
    exact Bay.ImagesLawful.of_vitals (x := { s.bay b with link := (f (s.bay b)).link }) hx (hf _)

/-- A request of the Discovery Unit, for a bay without transaction (R111). -/
theorem State.requestDiscovery_preserves (s : State) (b : BayId) (kind : TxKind) (carried : Option Written)
    (hl : (s.bay b).link = kind.link) (hclear : s.Clear b)
    (hw : ∀ w, carried = some w → w.image.lawful = true) : s.Preserves (s.requestDiscovery b kind carried) := by
  unfold State.requestDiscovery
  refine .ite (fun _ => ⟨fun hs => ?_, fun _ hi => ?_⟩) fun _ => .refl s
  · obtain ⟨hbays, hentries, hcount⟩ := hs
    refine ⟨hbays, fun n e he => ?_, fun c hc => ?_⟩
    · rw [State.modifyEngine_engine] at he
      split at he
      · next hn =>
        rw [Engine.entries, ← List.append_assoc, List.mem_append] at he
        rcases he with he | he
        · rw [hn]; exact hentries _ e he
        · rw [List.mem_singleton.mp he]
          exact ⟨hn.symm, hl⟩
      · exact hentries n e he
    · rw [State.modifyEngine_engine]
      split
      · next hn =>
        rw [Engine.entries, ← List.append_assoc, List.countP_append]
        by_cases hcb : c = b
        · have hzero : (s.engine (busOf b)).entries.countP (fun e => decide (e.bay = b)) = 0 :=
            List.countP_eq_zero.mpr fun e he => by simpa using hclear e he
          rw [hcb]
          exact (Nat.add_le_add_right hzero.le _).trans (by simp)
        · have hs := hcount c hc
          rw [hn] at hs
          rw [List.countP_singleton, if_neg (by simpa using fun h => hcb h.symm)]
          exact hs
      · exact hcount c hc
  · obtain ⟨hbays, hq, hcur⟩ := hi
    refine ⟨hbays, fun n e he => ?_, fun n tx htx => ?_⟩
    · rw [State.modifyEngine_engine] at he
      split at he
      · rcases List.mem_append.mp he with he | he
        · exact hq _ e he
        · rw [List.mem_singleton.mp he]
          exact hw
      · exact hq n e he
    · rw [State.modifyEngine_engine] at htx
      split at htx
      · exact hcur _ tx htx
      · exact hcur n tx htx

/-! ## Departure (R7, R112) -/

theorem State.completeCommand_engine (s : State) (b : BayId) (r : CommandResult) (n : BusId) :
    (s.completeCommand b r).engine n = s.engine n := by
  unfold State.completeCommand
  dsimp only
  (repeat' split) <;> rfl

theorem State.completeCommand_inProgress (s : State) (b : BayId) (r : CommandResult) :
    ((s.completeCommand b r).bay b).slot.inProgress = false := by
  cases h : (s.bay b).slot.inProgress with
  | true => rw [s.completeCommand_bay b r h]
  | false => rw [s.completeCommand_idle b r h, h]

/-- The queued entries of bay `b` are removed from its bus. -/
def State.unqueue (t : State) (b : BayId) : State :=
  t.modifyEngine (busOf b) fun e => { e with queue := e.queue.filter fun x => x.bay ≠ b }

theorem State.unqueue_keeps_dropEntries (t : State) (b : BayId) : (t.unqueue b).Keeps (t.dropEntries b) := by
  unfold State.dropEntries State.unqueue
  exact .ite (fun _ => State.sweepLeave_keeps _ b) fun _ => .refl _

theorem State.unqueue_clear (t : State) (b : BayId) (h : ∀ e ∈ (t.engine (busOf b)).currentEntry, e.bay ≠ b) :
    (t.unqueue b).Clear b := by
  intro e he
  rw [State.unqueue, State.modifyEngine_engine_self] at he
  rcases Engine.mem_entries.mp he with he | he
  · exact h e he
  · simpa using (List.mem_filter.mp he).2

/-- Bay `b` of `s` has become that of `t` in a new link state, and its queued entries are removed. -/
theorem State.Preserves.dropEntries {s t : State} {b : BayId} (hne : ∀ c, c ≠ b → t.bay c = s.bay c)
    (hok : (s.bay b).LinkOk → (t.bay b).LinkOk) (him : (s.bay b).ImagesLawful → (t.bay b).ImagesLawful)
    (hbus : ∀ n, (t.engine n).bus.Within (s.engine n).bus) (hqueue : ∀ n, (t.engine n).queue = (s.engine n).queue)
    (hcur : ∀ e ∈ (t.engine (busOf b)).currentEntry, e.bay ≠ b) : s.Preserves (t.dropEntries b) := by
  refine .keep (t := t.unqueue b) (.of_removed (b := b) hne hok him (fun n => ?_) (fun n => ?_)
    (t.unqueue_clear b hcur)) (t.unqueue_keeps_dropEntries b)
  · rw [State.unqueue, State.modifyEngine_engine]
    split
    · next h => rw [h]; exact hbus _
    · exact hbus n
  · rw [State.unqueue, State.modifyEngine_engine, ← hqueue]
    split
    · next h => rw [h]; exact List.filter_sublist
    · exact List.Sublist.refl _

/-- The state of a departure before its queued entries are removed: record and command (R7 steps 1 to 3). -/
def State.departed (s : State) (b : BayId) (dest : LinkState) (cause : LinkCause) : State :=
  (s.modifyBay b fun x => x.leaveBound dest).completeCommand b (departureResult cause)

theorem State.depart_eq (s : State) (b : BayId) (dest : LinkState) (cause : LinkCause) :
    s.depart b dest cause = ((((s.departed b dest cause).dropEntries b).enqueue (.bay b) (.link dest cause)).enqueue
      (.bay b) (.state .unknown .link)) := rfl

theorem State.departed_engine (s : State) (b : BayId) (dest : LinkState) (cause : LinkCause) (n : BusId) :
    (s.departed b dest cause).engine n = s.engine n := State.completeCommand_engine _ b _ n

theorem State.departed_link (s : State) (b : BayId) (dest : LinkState) (cause : LinkCause) :
    ((s.departed b dest cause).bay b).link = dest := by
  rw [State.departed, (State.completeCommand_keeps _ b _).link, State.modifyBay_bay_self]
  rfl

theorem State.departed_power (s : State) (b : BayId) (dest : LinkState) (cause : LinkCause) :
    ((s.departed b dest cause).bay b).power = .unknown := by
  cases h : (s.bay b).slot.inProgress with
  | true => rw [State.departed, State.completeCommand_bay _ b _ (by simpa [Bay.leaveBound] using h)]; simp [Bay.leaveBound]
  | false => rw [State.departed, State.completeCommand_idle _ b _ (by simpa [Bay.leaveBound] using h)]; simp [Bay.leaveBound]

theorem State.depart_preserves (s : State) (b : BayId) (dest : LinkState) (cause : LinkCause) (hd : dest ≠ .bound)
    (hcur : ∀ e ∈ (s.engine (busOf b)).currentEntry, e.bay ≠ b) : s.Preserves (s.depart b dest cause) := by
  rw [State.depart_eq]
  refine .keep (.keep (.dropEntries (fun c hc => ?_) (fun _ => ?_) (fun hx => ?_) (fun n => ?_) (fun n => ?_) ?_)
    (State.enqueue_keeps _ _ _)) (State.enqueue_keeps _ _ _)
  · rw [State.departed, State.completeCommand_bay_ne _ b _ c hc, State.modifyBay_bay_ne s b c _ hc]
  · exact .of_unbound (by rwa [State.departed_link]) (s.departed_power b dest cause)
      (State.completeCommand_inProgress _ b _)
  · refine (State.completeCommand_keeps _ b _).images b ?_
    rw [State.modifyBay_bay_self]
    exact .of_steady hx.1 hx.2.1 nofun nofun
  · rw [State.departed_engine]; exact .refl _
  · rw [State.departed_engine]
  · rwa [State.departed_engine]

/-- A departed bay has no transaction left. -/
theorem State.depart_clear (s : State) (b : BayId) (dest : LinkState) (cause : LinkCause) (hd : dest ≠ .bound)
    (hcur : ∀ e ∈ (s.engine (busOf b)).currentEntry, e.bay ≠ b) : (s.depart b dest cause).Clear b := by
  rw [State.depart_eq]
  refine State.Keeps.clear (s := (s.departed b dest cause).unqueue b)
    (((State.unqueue_keeps_dropEntries _ b).trans (State.enqueue_keeps _ _ _)).trans (State.enqueue_keeps _ _ _)) ?_
    (State.unqueue_clear _ b (by rwa [State.departed_engine]))
  rw [State.unqueue, State.modifyEngine_bay, State.departed_link]
  exact hd

theorem State.depart_link (s : State) (b : BayId) (dest : LinkState) (cause : LinkCause) :
    ((s.depart b dest cause).bay b).link = dest := by
  rw [State.depart_eq, State.enqueue_bay, State.enqueue_bay, State.dropEntries_bay_ne, State.departed_link]

/-! ## Hunts (R127 to R130) -/

theorem State.huntReach_preserves (s : State) (b : BayId) : s.Preserves (s.huntReach b) := by
  unfold State.huntReach
  dsimp only
  refine .ite (fun h => .of_consistent fun hs => ?_) fun _ => .refl s
  simp only [Bool.and_eq_true, Bool.or_eq_true, decide_eq_true_eq] at h
  have hne : (s.bay b).link ≠ .bound := by rcases h.2 with h | h <;> simp [h]
  refine .trans ?_ (State.requestDiscovery_preserves _ b _ _ ?_ ?_ fun _ => nofun)
  · refine .trans ?_ (State.relink_preserves _ b _ ?_ ?_)
    · exact (s.modifyEngine_keeps_frame _ _).preserves
    · rwa [State.modifyEngine_bay]
    · exact (hs.clear h.2).modifyEngine _ _
  · rw [State.modifyBay_bay_self]; rfl
  · exact ((hs.clear h.2).modifyEngine _ _).modifyBay b _

theorem State.startHunt_preserves (s : State) (n : BusId) : s.Preserves (s.startHunt n) := by
  unfold State.startHunt
  exact ((s.modifyEngine_keeps_frame n _).preserves.trans
    (State.foldl_preserves _ State.huntReach_preserves _ _)).keep (State.endHunt_keeps _ n)

/-! ## A whole bus (R122 to R124) -/

theorem State.dropEntries_idle (s : State) (b : BayId) (h : (s.engine (busOf b)).entries = []) :
    ((s.dropEntries b).engine (busOf b)).entries = [] := by
  simp only [Engine.entries, List.append_eq_nil_iff] at h
  simp only [State.dropEntries, h.2, List.any_nil, Bool.false_eq_true, if_false, State.modifyEngine_engine_self]
  simpa [Engine.entries, Engine.currentEntry, h.2] using h.1

theorem State.bayDown_idle (failing : Bool) (s : State) (b : BayId) (h : (s.engine (busOf b)).entries = []) :
    ((State.bayDown failing s b).engine (busOf b)).entries = [] := by
  have hleave : ∀ t : State, ((t.huntLeave b).engine (busOf b)).entries = (t.engine (busOf b)).entries := fun t => by
    simp [State.huntLeave, Engine.entries, Engine.currentEntry]
  unfold State.bayDown
  dsimp only
  split
  · rw [State.depart_eq, State.enqueue_engine, State.enqueue_engine]
    exact State.dropEntries_idle _ b (by rwa [State.departed_engine])
  · rw [State.enqueue_engine, hleave]; exact h
  · split
    · split
      · rw [State.enqueue_engine, hleave]; exact h
      · rw [hleave]; exact h
    · rw [State.enqueue_engine, hleave]; exact h
  · exact h
  · exact h

theorem State.bayDown_preserves (failing : Bool) (s : State) (b : BayId)
    (h : (s.engine (busOf b)).entries = []) : s.Preserves (State.bayDown failing s b) := by
  have hclear : s.Clear b := fun e he => by rw [h] at he; cases he
  have hcur : ∀ e ∈ (s.engine (busOf b)).currentEntry, e.bay ≠ b := fun e he =>
    hclear e (Engine.mem_entries.mpr (.inl he))
  unfold State.bayDown
  dsimp only
  split
  · exact s.depart_preserves b _ _ nofun hcur
  · next hl =>
    exact ((s.relink_preserves b _ (by simp [hl]) hclear).keep (State.huntLeave_keeps _ b)).keep
      (State.enqueue_keeps _ _ _)
  · next hl =>
    refine .ite (fun _ => ?_) fun _ => ?_
    · exact ((s.relink_preserves b _ (by simp [hl]) hclear).keep (State.huntLeave_keeps _ b)).keep
        (.ite (fun _ => State.enqueue_keeps _ _ _) fun _ => .refl _)
    · exact ((s.relink_preserves b _ (by simp [hl]) hclear).keep (State.huntLeave_keeps _ b)).keep
        (State.enqueue_keeps _ _ _)
  · exact .refl s
  · exact .refl s

theorem State.foldl_bayDown_preserves (failing : Bool) (n : BusId) :
    ∀ (l : List BayId) (s : State), (∀ b ∈ l, busOf b = n) → (s.engine n).entries = [] →
      s.Preserves (l.foldl (State.bayDown failing) s)
  | [], s, _, _ => .refl s
  | b :: l, s, hl, h => by
    have hb : busOf b = n := hl b (List.mem_cons_self ..)
    subst hb
    exact (s.bayDown_preserves failing b h).trans (State.foldl_bayDown_preserves failing _ l _
      (fun c hc => hl c (List.mem_cons_of_mem b hc)) (s.bayDown_idle failing b h))

theorem State.busDown_preserves (s : State) (n : BusId) (failing : Bool) : s.Preserves (s.busDown n failing) := by
  have hbus : (if failing = true then BusState.failed else .idle).current = none := by cases failing <;> rfl
  have hwipe : s.Keeps (s.modifyEngine n fun e =>
      { e with bus := if failing then .failed else .idle, queue := [], sweep := none }) :=
    s.modifyEngine_keeps n _ (.of_none hbus) (.of_sublist (List.nil_sublist _))
  unfold State.busDown
  refine .keep (.keep (.trans (hwipe.trans (State.enqueue_keeps _ _ _)).preserves
    (State.foldl_bayDown_preserves failing n _ _ (busOf_of_mem_baysOf n) ?_)) (State.evalSweep_keeps _ n))
    (State.endHunt_keeps _ n)
  simp [Engine.entries, Engine.currentEntry, hbus]

end Sys2Proof.Machine

/-! # Transactions that end: completions, failures, recovery -/

namespace Sys2Proof.Machine

/-! ## The transaction in hand -/

theorem BusState.current_of_onWire {g : BusState} {tx : Tx} {a : Nat} (h : g.onWire = some (tx, a)) :
    g.current = some tx := by
  cases g with
  | active tx' a' sp st =>
    cases st with
    | none => cases h; rfl
    | some k => cases h
  | _ => cases h

theorem State.busIdle_keeps (s : State) (n : BusId) : s.Keeps (s.busIdle n) :=
  s.modifyEngine_keeps n _ (.of_none rfl) (.refl _)

theorem State.endIgnored_keeps (s : State) (n : BusId) (tx : Tx) : s.Keeps (s.endIgnored n tx) := by
  unfold State.endIgnored
  exact (s.busIdle_keeps n).trans (.ite (fun _ => State.sweepLeave_keeps _ _) fun _ => .refl _)

/-- Entry `e` has just ended: its bus is IDLE, its bay is in the link state of its kind, and in PROBING or SETUP it
was the bay's only transaction. -/
structure State.Awaits (s : State) (e : Entry) : Prop where
  idle : (s.engine (busOf e.bay)).bus = .idle
  link : (s.bay e.bay).link = e.kind.link
  clear : e.kind.link ≠ .bound → s.Clear e.bay

theorem State.Awaits.not_current {s : State} {e : Entry} (h : s.Awaits e) :
    ∀ d ∈ (s.engine (busOf e.bay)).currentEntry, d.bay ≠ e.bay := by
  intro d hd
  rw [Engine.currentEntry, h.idle] at hd
  cases hd

theorem TxKind.link_of_ne_bound {k : TxKind} (h : k.link ≠ .bound) : k.link = .probing ∨ k.link = .setup := by
  cases k <;> simp_all [TxKind.link]

theorem State.busIdle_awaits {s : State} (hs : s.LinksConsistent) {n : BusId} {tx : Tx}
    (hc : (s.engine n).bus.current = some tx) (hi : tx.ignored = false) : (s.busIdle n).Awaits tx.entry := by
  have hentries : (s.engine n).entries = tx.entry :: (s.engine n).queue := by
    simp [Engine.entries, Engine.currentEntry, hc, hi]
  obtain ⟨hn, hl⟩ := hs.2.1 n tx.entry (by simp [hentries])
  refine ⟨?_, hl, fun hne e he heb => ?_⟩
  · rw [hn, State.busIdle, State.modifyEngine_engine_self]
  · have hcount := hs.2.2 tx.entry.bay (by rw [hl]; exact TxKind.link_of_ne_bound hne)
    rw [hn, hentries, List.countP_cons_of_pos (by simp)] at hcount
    rw [hn, State.busIdle, State.modifyEngine_engine_self] at he
    have hpos : 0 < (s.engine n).queue.countP (fun d => decide (d.bay = tx.entry.bay)) :=
      List.countP_pos_iff.mpr ⟨e, he, by simpa using heb⟩
    omega

/-- What the handing over of the ended entry `e` leaves of both invariants: what the entry carried counts too. -/
structure State.Finishes (s : State) (e : Entry) (t : State) : Prop where
  links : s.LinksConsistent → s.Awaits e → t.LinksConsistent
  images : s.LinksConsistent → s.Awaits e → s.ImagesLawful → e.CarriesLawful → t.ImagesLawful

theorem State.Finishes.of_preserves {s t : State} {e : Entry} (h : s.Awaits e → s.Preserves t) : s.Finishes e t :=
  ⟨fun hs ha => (h ha).links hs, fun hs ha hi _ => (h ha).images hs hi⟩

/-- The transaction on bus `n` ends and is handed over (R116, R118). -/
theorem State.finish_preserves {s : State} {n : BusId} {tx : Tx} {t : State}
    (hc : (s.engine n).bus.current = some tx) (hi : tx.ignored = false) (h : (s.busIdle n).Finishes tx.entry t) :
    s.Preserves t where
  links hs := h.links ((s.busIdle_keeps n).preserves.links hs) (State.busIdle_awaits hs hc hi)
  images hs him := h.images ((s.busIdle_keeps n).preserves.links hs) (State.busIdle_awaits hs hc hi)
    ((s.busIdle_keeps n).preserves.images hs him) (him.2.2 n tx hc)

/-- A successful attempt (R116, R8). -/
theorem State.completeTx_preserves (s : State) (n : BusId) (k : TxKind) (handed : State → Entry → State)
    (h : ∀ (t : State) (e : Entry), e.kind = k → t.Finishes e (handed t e)) :
    s.Preserves (s.completeTx n k handed) := by
  unfold State.completeTx
  split
  · exact .refl s
  · next tx a hw =>
    refine .ite (fun hk => .ite (fun _ => (s.endIgnored_keeps n tx).preserves) fun hi => ?_) fun _ => .refl s
    exact State.finish_preserves (BusState.current_of_onWire hw) (by simpa using hi) (h _ _ hk)

/-! ## Completed writes and reads (R60, R73, R116) -/

theorem State.confirm_finishes (s : State) (e : Entry) :
    s.Finishes e (s.modifyBay e.bay fun x => { x with confirmed := e.carried }) where
  links hs _ := by
    refine hs.of_links (fun c => ?_) (fun c hc => ?_) (fun _ => .refl _) fun _ => .refl _
    · rw [State.modifyBay_bay]
      split
      · next h => rw [h]
      · rfl
    · rw [State.modifyBay_bay]
      split
      · next h => exact (h ▸ hc : (s.bay e.bay).LinkOk).of_eq rfl rfl rfl
      · exact hc
  images hs _ hi hw :=
    (s.modifyBay_keeps_of e.bay (fun x => { x with confirmed := e.carried }) rfl id
      fun hx => ⟨hx.1, hw, hx.2.2.1, hx.2.2.2⟩).preserves.images hs hi

theorem State.Finishes.trans {s t u : State} {e : Entry} (h : s.Finishes e t) (h' : s.Awaits e → t.Preserves u) :
    s.Finishes e u :=
  ⟨fun hs ha => (h' ha).links (h.links hs ha),
    fun hs ha hi hw => (h' ha).images (h.links hs ha) (h.images hs ha hi hw)⟩

theorem State.writeDone_finishes (s : State) (e : Entry) (hk : e.kind = .outputWrite) :
    s.Finishes e (s.writeDone e) := by
  have htests : ∀ t : State, t.Serves e.bay ((t.awaitedTest e.bay).sequencerTest e.bay) := fun t =>
    (t.awaitedTest_serves e.bay).trans (State.sequencerTest_serves _ e.bay)
  refine (s.confirm_finishes e).trans fun ha => (htests _ ?_).preserves
  rw [State.modifyBay_bay_self]
  simpa [hk, TxKind.link] using ha.link

theorem State.readDone_finishes (s : State) (e : Entry) (hk : e.kind = .inputRead) (levels output direction : Half) :
    s.Finishes e (s.readDone e.bay e.waiters levels output direction) := by
  refine .of_preserves fun ha => ?_
  have hsample := s.sampleRead_keeps e.bay levels
  have hl : ((s.sampleRead e.bay levels).bay e.bay).link = .bound := by
    rw [hsample.link, ha.link, hk]; rfl
  have hcur : ∀ d ∈ ((s.sampleRead e.bay levels).engine (busOf e.bay)).currentEntry, d.bay ≠ e.bay :=
    ha.not_current
  unfold State.readDone
  dsimp only
  rw [if_pos hl]
  refine .keep (hsample.preserves.trans (.ite (fun _ => ?_) fun _ => ?_)) (State.answerWaiters_keeps _ _ _)
  · exact (State.depart_preserves _ _ .setup _ nofun hcur).trans (State.requestDiscovery_preserves _ _ _ _
      (State.depart_link _ _ _ _) (State.depart_clear _ _ .setup _ nofun hcur) fun _ => nofun)
  · have hjudge := State.judgeLive_serves (s.sampleRead e.bay levels) e.bay (s.bay e.bay).live.fault
    exact State.Keeps.preserves (hjudge.trans (.ite (fun _ => State.debounce_serves _ _ _ _ _)
      fun _ => (State.Keeps.refl _).serves) hl)

/-! ## Discovery (R129 to R139) -/

theorem State.probeFound_finishes (s : State) (e : Entry) (hk : e.kind = .probe) :
    s.Finishes e (s.probeFound e.bay) := by
  refine .of_preserves fun ha => ?_
  have hl : (s.bay e.bay).link = .probing := by rw [ha.link, hk]; rfl
  have hclear := ha.clear (by simp [hk, TxKind.link])
  unfold State.probeFound
  refine .trans ?_ (State.requestDiscovery_preserves _ _ _ _ ?_ ?_ fun _ => nofun)
  · refine .trans ?_ (State.relink_preserves _ _ _ ?_ ?_)
    · exact (s.modifyEngine_keeps_frame _ _).preserves
    · simp [hl]
    · exact hclear.modifyEngine _ _
  · rw [State.modifyBay_bay_self]; rfl
  · exact (hclear.modifyEngine _ _).modifyBay _ _

theorem State.probeNotFound_preserves (s : State) (b : BayId) (hl : (s.bay b).link = .probing) (hc : s.Clear b) :
    s.Preserves (s.probeNotFound b) := by
  have hrelink : s.Preserves (s.modifyBay b fun x => { x with link := .absent }) :=
    s.relink_preserves b _ (by simp [hl]) hc
  unfold State.probeNotFound
  exact ((hrelink.keep (State.huntLeave_keeps _ b)).keep
    (.ite (fun _ => State.enqueue_keeps _ _ _) fun _ => .refl _)).keep (State.endHunt_keeps _ _)

theorem State.setupFailed_preserves (s : State) (b : BayId) (hl : (s.bay b).link = .setup) (hc : s.Clear b) :
    s.Preserves (s.setupFailed b) := by
  have hrelink : s.Preserves (s.modifyBay b fun x => { x with link := .lost, chain := none }) :=
    s.relink_preserves b _ (by simp [hl]) hc
  unfold State.setupFailed
  exact ((hrelink.keep (State.enqueue_keeps _ _ _)).keep (State.huntLeave_keeps _ b)).keep (State.endHunt_keeps _ _)

/-- An entry of the setup chain has just ended: its bay is in SETUP and has no other transaction. -/
theorem State.Awaits.of_setup {s : State} {e : Entry} {st : SetupStep} (ha : s.Awaits e) (hk : e.kind = .setup st) :
    (s.bay e.bay).link = .setup ∧ s.Clear e.bay :=
  ⟨by rw [ha.link, hk]; rfl, ha.clear (by simp [hk, TxKind.link])⟩

theorem State.identJudged_finishes (s : State) (e : Entry) (hk : e.kind = .setup .identRead) (ident : Byte) :
    s.Finishes e (s.identJudged e.bay ident) := by
  refine .of_preserves fun ha => ?_
  obtain ⟨hl, hclear⟩ := ha.of_setup hk
  have hrelink : s.Preserves (s.modifyBay e.bay fun x => { x with link := .absent, chain := none }) :=
    s.relink_preserves _ _ (by simp [hl]) hclear
  unfold State.identJudged
  exact .ite (fun _ => s.requestDiscovery_preserves _ _ _ hl hclear fun _ => nofun) fun _ =>
    ((hrelink.keep (State.huntLeave_keeps _ _)).keep (State.enqueue_keeps _ _ _)).keep (State.endHunt_keeps _ _)

/-- An image that is adopted has all power outputs on, or all off (R134). -/
theorem adoptDecision_lawful {r : Regs} {d : Dirs} {dec : Decided} (h : adoptDecision r d = some dec) :
    r.decode.lawful = true := by
  unfold adoptDecision at h
  dsimp only at h
  split at h
  · next hon => simp_all [Image.lawful, Regs.decode]
  · split at h
    · next hoff => simp_all [Image.lawful, Regs.decode]
    · cases h

/-- A bay in SETUP takes a target and a chain, and its next step is requested (R134, R135). -/
theorem State.chain_preserves (s : State) (b : BayId) (f : Bay → Bay) (st : SetupStep) (carried : Option Written)
    (hl : (s.bay b).link = .setup) (hclear : s.Clear b) (hw : ∀ w, carried = some w → w.image.lawful = true)
    (ht : (f (s.bay b)).target.lawful = true)
    (hc : ∀ w, (f (s.bay b)).confirmed = some w → w.image.lawful = true)
    (hf : ∀ x, (f x).link = x.link ∧ (f x).power = x.power ∧ (f x).slot = x.slot := by exact fun _ => ⟨rfl, rfl, rfl⟩) :
    s.Preserves ((s.modifyBay b f).requestDiscovery b (.setup st) carried) := by
  obtain ⟨hfl, hfp, hfs⟩ := hf (s.bay b)
  refine .of_consistent fun hs => ?_
  have hp : (s.bay b).power = .unknown := (hs.1 b).1.mpr (by simp [hl])
  refine .trans ?_ (State.requestDiscovery_preserves _ b _ carried ?_ (hclear.modifyBay b f) hw)
  · exact (s.modifyBay_keeps_of b f hfl (fun hx => hx.of_eq hfl hfp hfs) fun _ =>
      .of_steady ht hc (by simp [hfp, hp]) (by simp [hfp, hp])).preserves
  · rw [State.modifyBay_bay_self, hfl, hl]; rfl

theorem safeImage_lawful (r : Regs) : (safeImage r).lawful = true := rfl

theorem State.readbackJudged_finishes (s : State) (e : Entry) (hk : e.kind = .setup .setupRead) (r : Regs) :
    s.Finishes e (s.readbackJudged e.bay r) := by
  refine .of_preserves fun ha => ?_
  obtain ⟨hl, hclear⟩ := ha.of_setup hk
  unfold State.readbackJudged
  dsimp only
  split
  · next dec hdec =>
    have hlaw := adoptDecision_lawful hdec
    unfold State.adopt
    exact s.chain_preserves _ _ _ _ hl hclear (fun _ => nofun) hlaw (by rintro w ⟨⟩; exact hlaw)
  · unfold State.forceSafe
    exact s.chain_preserves _ _ _ _ hl hclear (by rintro w ⟨⟩; exact safeImage_lawful r) (safeImage_lawful r)
      fun _ => nofun

theorem State.forceSafeDone_finishes (s : State) (e : Entry) (hk : e.kind = .setup .forceSafe) :
    s.Finishes e (s.forceSafeDone e.bay e.carried) := by
  refine (s.confirm_finishes e).trans fun ha => ?_
  obtain ⟨hl, hclear⟩ := ha.of_setup hk
  exact State.requestDiscovery_preserves _ _ _ _ (by rw [State.modifyBay_bay_self]; exact hl)
    (hclear.modifyBay _ _) fun _ => nofun

theorem Decided.power_ne_unknown (d : Decided) : d.power ≠ .unknown := by cases d <;> nofun

theorem Decided.power_steady (d : Decided) : d.power ≠ .ramp ∧ d.power ≠ .clock := by cases d <;> exact ⟨nofun, nofun⟩

theorem State.bind_preserves (s : State) (b : BayId) (levels : Half) (ch : Chain) (hl : (s.bay b).link = .setup)
    (hclear : s.Clear b) : s.Preserves (s.bind b levels ch) := by
  have hseed : s.Keeps (s.seedInputs b levels ch.dirs) := by
    unfold State.seedInputs
    exact (s.sampleRead_keeps b levels).trans (State.modifyBay_keeps _ b _)
  have hclear' := hseed.clear (by simp [hl]) hclear
  have hbind : ∀ t : State, t.Clear b → t.Preserves (t.modifyBay b fun x => x.bindFields ch) := fun t ht => by
    refine .of_removed (fun c hc => t.modifyBay_bay_ne b c _ hc) (fun _ => ?_) (fun hx => ?_) (fun _ => .refl _)
      (fun _ => List.Sublist.refl _) (ht.modifyBay b _)
    · rw [State.modifyBay_bay_self]
      exact .of_bound rfl ch.decided.power_ne_unknown
    · rw [State.modifyBay_bay_self]
      exact .of_steady hx.1 hx.2.1 ch.decided.power_steady.1 ch.decided.power_steady.2
  have hserves : ∀ t : State, t.Serves b
      (((((t.bindPower b ch.decided).huntBound b).evalSweep (busOf b)).bindChecks b).endHunt (busOf b)) := fun t =>
    ((((t.bindPower_serves b _).keep (State.huntBound_keeps _ b)).keep (State.evalSweep_keeps _ _)).trans
      (State.bindChecks_serves _ b)).keep (State.endHunt_keeps _ _)
  unfold State.bind
  refine .trans ((hseed.preserves.trans (hbind _ hclear')).keep (State.enqueue_keeps _ _ _))
    (hserves _ ?_).preserves
  rw [State.enqueue_bay, State.modifyBay_bay_self]
  rfl

/-! ## Failed attempts and recovery (R117 to R122) -/

theorem State.exhausted_preserves (s : State) (e : Entry) (ha : s.Awaits e) : s.Preserves (s.exhausted e) := by
  unfold State.exhausted
  split
  · next hk => exact s.probeNotFound_preserves _ (by rw [ha.link, hk]; rfl) (ha.clear (by simp [hk, TxKind.link]))
  · next hk => exact s.setupFailed_preserves _ (ha.of_setup hk).1 (ha.of_setup hk).2
  · exact (s.depart_preserves _ .lost _ nofun ha.not_current).keep
      (.ite (fun _ => State.sweepLeave_keeps _ _) fun _ => .refl _)
  · exact s.depart_preserves _ .lost _ nofun ha.not_current

theorem State.countFailure_keeps (s : State) (tx : Tx) : s.Keeps (s.countFailure tx) := by
  unfold State.countFailure
  exact .ite (fun _ => .refl s) fun _ => s.modifyBay_keeps _ _

theorem State.countFailure_engine (s : State) (tx : Tx) (n : BusId) : (s.countFailure tx).engine n = s.engine n := by
  unfold State.countFailure
  split <;> rfl

/-- The engine goes on with the transaction that it holds. -/
theorem State.hold_keeps (s : State) (n : BusId) (tx : Tx) (hc : (s.engine n).bus.current = some tx)
    (f : Engine → BusState) (hf : ∀ e, (f e).current = some tx := by exact fun _ => rfl) :
    s.Keeps (s.modifyEngine n fun e => { e with bus := f e }) :=
  s.modifyEngine_keeps n _ (.of_current ((hf _).trans hc.symm)) (.refl _)

theorem State.nack_preserves (s : State) (n : BusId) : s.Preserves (s.nack n) := by
  unfold State.nack
  split
  · exact .refl s
  · next tx a hw =>
    have hc : ((s.countFailure tx).engine n).bus.current = some tx := by
      rw [State.countFailure_engine]
      exact BusState.current_of_onWire hw
    refine .ite (fun _ => (s.endIgnored_keeps n tx).preserves) fun hi => (s.countFailure_keeps tx).preserves.trans ?_
    exact .ite (fun _ => (State.hold_keeps _ n tx hc _).preserves) fun _ =>
      State.finish_preserves hc (by simpa using hi) (.of_preserves (State.exhausted_preserves _ _))

theorem State.attemptTimeout_keeps (s : State) (n : BusId) (tx : Tx) (a : Nat)
    (hc : (s.engine n).bus.current = some tx) : s.Keeps (s.attemptTimeout n tx a) :=
  (s.countFailure_keeps tx).trans (State.hold_keeps _ n tx (by rw [State.countFailure_engine, hc]) _)

theorem State.passSucceeds_preserves (s : State) (n : BusId) (tx : Tx) (a : Nat)
    (hc : (s.engine n).bus.current = some tx) : s.Preserves (s.passSucceeds n tx a) := by
  unfold State.passSucceeds
  exact .ite (fun _ => (s.endIgnored_keeps n tx).preserves) fun hi =>
    .ite (fun _ => (s.hold_keeps n tx hc _).preserves) fun _ =>
      State.finish_preserves hc (by simpa using hi) (.of_preserves (State.exhausted_preserves _ _))

theorem State.passFails_preserves (s : State) (n : BusId) (tx : Tx) (a passes : Nat)
    (hc : (s.engine n).bus.current = some tx) : s.Preserves (s.passFails n tx a passes) :=
  .ite (fun _ => (s.hold_keeps n tx hc _).preserves) fun _ => s.busDown_preserves n true

/-! ## Begin (R113, R114) -/

theorem perm_cons_eraseP_of_find? {p : Entry → Bool} {q : List Entry} {x : Entry} (h : q.find? p = some x) :
    q.Perm (x :: q.eraseP p) := by
  obtain ⟨hp, l₁, l₂, rfl, hl⟩ := List.find?_eq_some_iff_append.mp h
  rw [List.eraseP_append_right _ (by simpa using hl), List.eraseP_cons_of_pos hp]
  exact List.perm_middle

/-- The arbiter takes one entry out of the queue (R113). -/
theorem arbiter_perm {q rest : List Entry} {x : Entry} (h : arbiter q = some (x, rest)) : q.Perm (x :: rest) := by
  unfold arbiter at h
  dsimp only at h
  split at h
  · next e he =>
    cases h
    exact perm_cons_eraseP_of_find? he
  · split at h
    · cases h
    · cases h; exact List.Perm.refl _

@[simp] theorem Entry.begun_bay (e : Entry) (x : Bay) : (e.begun x).bay = e.bay := by
  unfold Entry.begun; split <;> rfl

@[simp] theorem Entry.begun_kind (e : Entry) (x : Bay) : (e.begun x).kind = e.kind := by
  unfold Entry.begun; split <;> simp_all

/-- A write that begins carries the target, which obeys the law (R114). -/
theorem Entry.begun_carriesLawful {e : Entry} {x : Bay} (he : e.CarriesLawful) (hx : x.target.lawful = true) :
    (e.begun x).CarriesLawful := by
  unfold Entry.begun
  split
  · rintro w ⟨⟩; exact hx
  · exact he

theorem State.beginNext_preserves (s : State) (n : BusId) : s.Preserves (s.beginNext n) := by
  unfold State.beginNext
  dsimp only
  split
  · next x rest hidle harb =>
    have hperm := arbiter_perm harb
    have hentries : (s.engine n).entries = (s.engine n).queue := by
      simp [Engine.entries, Engine.currentEntry, hidle, BusState.current]
    have hmem : ∀ e, e ∈ x :: rest → e ∈ (s.engine n).entries := fun e he => by
      rw [hentries]; exact hperm.mem_iff.mpr he
    refine .ite (fun _ => ⟨fun hs => ?_, fun _ hi => ?_⟩) fun _ => .refl s
    · obtain ⟨hbays, hent, hcount⟩ := hs
      refine ⟨hbays, fun m e he => ?_, fun c hc => ?_⟩
      · rw [State.modifyEngine_engine] at he
        split at he
        · next hm =>
          subst hm
          rcases List.mem_cons.mp he with he | he
          · have hx := hent _ x (hmem x (List.mem_cons_self ..))
            rw [he]
            simpa using hx
          · exact hent _ e (hmem e (List.mem_cons_of_mem x he))
        · exact hent m e he
      · rw [State.modifyEngine_engine]
        split
        · next hn =>
          have hs := hcount c hc
          rw [hn, hentries, hperm.countP_eq] at hs
          simpa [Engine.entries, Engine.currentEntry, BusState.current, List.countP_cons] using hs
        · exact hcount c hc
    · obtain ⟨hbays, hq, hcur⟩ := hi
      refine ⟨hbays, fun m e he => ?_, fun m tx htx => ?_⟩
      · rw [State.modifyEngine_engine] at he
        split at he
        · exact hq n e (hperm.mem_iff.mpr (List.mem_cons_of_mem x he))
        · exact hq m e he
      · rw [State.modifyEngine_engine] at htx
        split at htx
        · cases htx
          exact Entry.begun_carriesLawful (hq n x (hperm.mem_iff.mpr (List.mem_cons_self ..))) (hbays x.bay).1
        · exact hcur m tx htx
  · exact .refl s

end Sys2Proof.Machine

/-! # Every command keeps links and images -/

namespace Sys2Proof.Machine

/-! ## Release and configuration (R4 to R8, R106) -/

theorem State.ignoreCurrent_keeps (s : State) (b : BayId) : s.Keeps (s.ignoreCurrent b) := by
  unfold State.ignoreCurrent
  split
  · exact .refl s
  · exact .ite (fun _ => s.modifyEngine_keeps _ _ (BusState.ignore_within _) (.refl _)) fun _ => .refl s

theorem State.ignoreCurrent_queue (s : State) (b : BayId) (n : BusId) :
    ((s.ignoreCurrent b).engine n).queue = (s.engine n).queue := by
  unfold State.ignoreCurrent
  split
  · rfl
  · split
    · rw [State.modifyEngine_engine]
      split
      · next h => rw [h]
      · rfl
    · rfl

/-- No transaction that counts is one of a bay whose transaction is ignored (R8). -/
theorem State.ignoreCurrent_not_current (s : State) (b : BayId) :
    ∀ e ∈ ((s.ignoreCurrent b).engine (busOf b)).currentEntry, e.bay ≠ b := by
  intro e he
  unfold State.ignoreCurrent at he
  split at he
  · next hc => simp [Engine.currentEntry, hc] at he
  · next tx hc =>
    split at he
    · rw [State.modifyEngine_engine_self] at he
      cases hb : (s.engine (busOf b)).bus <;>
        simp [Engine.currentEntry, hb, BusState.ignore, BusState.current] at he
    · next hne =>
      simp only [Engine.currentEntry, hc] at he
      split at he
      · cases he
      · rw [List.mem_singleton.mp he]; exact hne

theorem State.release_preserves (s : State) (b : BayId) : s.Preserves (s.release b) := by
  have hign := s.ignoreCurrent_keeps b
  have hcur := s.ignoreCurrent_not_current b
  have hbay : (s.ignoreCurrent b).bay b = s.bay b := s.ignoreCurrent_bay_ne b b
  have hunlink : ∀ (f : Bay → Bay), (s.bay b).link ≠ .bound → (f (s.bay b)).link = .absent →
      (f (s.bay b)).vitals = { s.bay b with link := .absent }.vitals →
      s.Preserves (((s.ignoreCurrent b).modifyBay b f).dropEntries b) := fun f hl hfl hfv => by
    refine .dropEntries (fun c hc => ?_) (fun hx => ?_) (fun hx => ?_) hign.bus (s.ignoreCurrent_queue b) hcur
    · rw [State.modifyBay_bay_ne _ b c f hc, State.ignoreCurrent_bay_ne]
    · rw [State.modifyBay_bay_self, hbay]
      refine Bay.LinkOk.of_vitals (.of_unbound (x := { s.bay b with link := .absent }) nofun (hx.1.mpr hl) ?_) hfv
      exact Bool.eq_false_iff.mpr fun h => hl (hx.2 h)
    · rw [State.modifyBay_bay_self, hbay]
      exact Bay.ImagesLawful.of_vitals (x := { s.bay b with link := .absent }) hx hfv
  unfold State.release
  dsimp only
  split
  · exact hign.preserves.trans (State.depart_preserves _ b .absent _ nofun hcur)
  · next hl =>
    exact (((hunlink _ (by simp [hl]) rfl rfl).keep (State.enqueue_keeps _ _ _)).keep
      (State.huntLeave_keeps _ b)).keep (State.endHunt_keeps _ _)
  · next hl =>
    exact (((hunlink _ (by simp [hl]) rfl rfl).keep (State.enqueue_keeps _ _ _)).keep
      (State.huntLeave_keeps _ b)).keep (State.endHunt_keeps _ _)
  · next hl =>
    refine .of_consistent fun hs => (hign.preserves.trans ?_).keep (State.enqueue_keeps _ _ _)
    have hne : (s.bay b).link ≠ .bound := by simp [hl]
    exact State.relink_preserves _ b _ (by rwa [hbay]) (hign.clear hne (hs.clear (.inr hl)))
  · exact hign.preserves

theorem State.autoStart_preserves (s : State) (b : BayId) : s.Preserves (s.autoStart b) :=
  .ite (fun h => (s.beginPowerUp_serves b).preserves (by simp_all)) fun _ => .refl s

theorem State.writeBayConfig_preserves (s : State) (b : BayId) (w : Word) : s.Preserves (s.writeBayConfig b w) := by
  unfold State.writeBayConfig
  refine .ite (fun _ => State.Keeps.preserves (.of_frame rfl rfl)) fun _ => ?_
  refine .trans ?_ (.ite (fun _ => (State.correctIndicator_keeps _ b).preserves) fun _ => .refl _)
  refine .trans ?_ (.ite (fun _ => State.autoStart_preserves _ b) fun _ => .refl _)
  exact (s.modifyBay_keeps b _).preserves.trans (.ite (fun _ => State.release_preserves _ b) fun _ => .refl _)

theorem State.writeProfile_keeps (s : State) (p : ProfileId) (wordB : Bool) (w : Word) :
    s.Keeps (s.writeProfile p wordB w) := by
  unfold State.writeProfile
  exact .ite (fun _ => .of_frame rfl rfl) fun _ => .of_frame rfl rfl

theorem State.writeClassMap_keeps (s : State) (w : Word) : s.Keeps (s.writeClassMap w) := by
  unfold State.writeClassMap
  split <;> exact .of_frame rfl rfl

theorem State.writeBusConfig_preserves (s : State) (n : BusId) (w : Word) : s.Preserves (s.writeBusConfig n w) := by
  unfold State.writeBusConfig
  split
  · exact State.Keeps.preserves (.of_frame rfl rfl)
  · exact (s.modifyEngine_keeps_frame n _).preserves.trans
      (.ite (fun _ => State.busDown_preserves _ n false) fun _ => .refl _)

theorem State.writeRoute_keeps (s : State) (i : SourceId) (w : Word) : s.Keeps (s.writeRoute i w) := by
  unfold State.writeRoute
  split
  · exact .of_frame rfl rfl
  · exact .ite (fun _ => .of_frame rfl rfl) fun _ => .of_frame rfl rfl

theorem State.takeRecord_keeps (s : State) (win : Fin 5) (wants : Record → Bool) : s.Keeps (s.takeRecord win wants) := by
  unfold State.takeRecord
  dsimp only
  split
  · exact .of_frame rfl rfl
  · exact .ite (fun _ => .of_frame rfl rfl) fun _ => .of_frame rfl rfl

theorem State.writeTake_keeps (s : State) (w : Word) : s.Keeps (s.writeTake w) := by
  unfold State.writeTake
  dsimp only
  split
  · exact s.takeRecord_keeps _ _
  · exact .ite (fun _ => s.takeRecord_keeps _ _) fun _ => .of_frame rfl rfl

/-! ## Global commands, reset and start-up (R123, R131, R141, R176, R177) -/

theorem State.takeHunt_preserves (s : State) (m : BusMask) (tag : Byte) : s.Preserves (s.takeHunt m tag) := by
  have hanswer : s.Keeps (s.answerGlobal 1 (s.huntResult m) tag) := .of_frame rfl rfl
  unfold State.takeHunt
  exact hanswer.preserves.trans (.ite (fun _ => State.foldl_preserves _ State.startHunt_preserves _ _)
    fun _ => .refl _)

theorem State.takeRestart_preserves (s : State) (m : BusMask) (tag : Byte) : s.Preserves (s.takeRestart m tag) := by
  have hanswer : s.Keeps (s.answerGlobal 2 (s.restartResult m) tag) := .of_frame rfl rfl
  have hrestart : ∀ (t : State) (n : BusId), t.Preserves (t.restartBus n) := fun t n =>
    (t.busDown_preserves n false).trans (State.startHunt_preserves _ n)
  unfold State.takeRestart
  exact hanswer.preserves.trans (.ite (fun _ => State.foldl_preserves _ hrestart _ _) fun _ => .refl _)

theorem State.takeGlobal_preserves (s : State) (code : BitVec 4) (m : BusMask) (tag : Byte) :
    s.Preserves (s.takeGlobal code m tag) :=
  .ite (fun _ => s.takeHunt_preserves m tag) fun _ => .ite (fun _ => s.takeRestart_preserves m tag)
    fun _ => State.Keeps.preserves (.of_frame rfl rfl)

theorem State.resetBlocks_bay (s : State) (low : Bool) (f : Frame) (b : BayId) :
    (s.resetBlocks low f).bay b = Bay.reset := by
  simp [State.resetBlocks, State.bay, State.reset]

theorem State.resetBlocks_engine (s : State) (low : Bool) (f : Frame) (n : BusId) :
    (s.resetBlocks low f).engine n = Engine.reset := by
  simp [State.resetBlocks, State.engine, State.reset]

theorem State.resetBlocks_preserves (s : State) (low : Bool) (f : Frame) : s.Preserves (s.resetBlocks low f) where
  links _ := by
    refine ⟨fun b => ?_, fun n e he => ?_, fun b hb => ?_⟩
    · rw [State.resetBlocks_bay]
      exact .of_unbound nofun rfl rfl
    · rw [State.resetBlocks_engine] at he; cases he
    · rw [State.resetBlocks_bay] at hb
      rcases hb with hb | hb <;> cases hb
  images _ _ := by
    refine ⟨fun b => ?_, fun n e he => ?_, fun n tx htx => ?_⟩
    · rw [State.resetBlocks_bay]
      exact .of_steady rfl (fun _ => nofun) nofun nofun
    · rw [State.resetBlocks_engine] at he; cases he
    · rw [State.resetBlocks_engine] at htx; cases htx

theorem State.startUp_preserves (s : State) : s.Preserves s.startUp := by
  unfold State.startUp
  exact (((s.modifyEngine_keeps_frame 0 _).trans (State.modifyEngine_keeps_frame _ 1 _)).preserves.trans
    (State.startHunt_preserves _ 0)).trans (State.startHunt_preserves _ 1)

theorem State.writeControl_preserves (s : State) (w : Word) : s.Preserves (s.writeControl w) :=
  .ite (fun _ => (s.resetBlocks_preserves _ _).trans (State.startUp_preserves _)) fun _ => .refl s

/-! ## Register words (R170, R174) -/

theorem State.writeReg_preserves (s : State) (r : Reg) (w : Word) : s.Preserves (s.writeReg r w) := by
  unfold State.writeReg
  split
  · exact s.writeControl_preserves w
  · exact s.takeGlobal_preserves _ _ _
  · exact State.Keeps.preserves (.of_frame rfl rfl)
  · exact State.Keeps.preserves (.of_frame rfl rfl)
  · exact s.writeBusConfig_preserves _ w
  · exact State.Keeps.preserves (.of_frame rfl rfl)
  · exact (s.writeTake_keeps w).preserves
  · exact State.Keeps.preserves (.of_frame rfl rfl)
  · exact (s.writeRoute_keeps _ w).preserves
  · exact (s.writeProfile_keeps _ _ w).preserves
  · exact (s.writeProfile_keeps _ _ w).preserves
  · exact (s.writeClassMap_keeps w).preserves
  · exact s.writeBayConfig_preserves _ w
  · exact (s.takeCommandCode_keeps _ _ _ _).preserves
  · exact State.Keeps.preserves (.of_frame rfl rfl)

theorem State.writeWord_preserves (s : State) (a : Addr) (w : Word) : s.Preserves (s.writeWord a w) := by
  unfold State.writeWord
  split
  · exact State.Keeps.preserves (.of_frame rfl rfl)
  · exact s.writeReg_preserves _ w

/-! ## Time (R17, R18) -/

theorem BusState.age_current (g : BusState) : g.age.current = g.current := by cases g <;> rfl

theorem State.tick_keeps (s : State) : s.Keeps s.tick where
  link b := by rw [State.tick_bay]; rfl
  linkOk b hb := by rw [State.tick_bay]; exact hb.of_vitals rfl
  images b hb := by rw [State.tick_bay]; exact hb.of_vitals rfl
  bus n := by rw [State.tick_engine]; exact .of_current (BusState.age_current _)
  queue n := by rw [State.tick_engine]; exact .refl _

/-! ## Commands -/

theorem State.noticeAppends_keeps (s t : State) : t.Keeps (s.noticeAppends t) := .of_frame rfl rfl

theorem State.afterWord_keeps (s : State) (a : Addr) : s.Keeps (s.afterWord a) := .of_frame rfl rfl

/-- The answer of a command keeps both invariants. -/
def State.AnswerPreserves (s : State) (o : Host.Outcome State Fault Refusal) : Prop :=
  ∀ t, o = .next t → s.Preserves t

theorem State.Preserves.next {s t : State} (h : s.Preserves t) : s.AnswerPreserves (.next t) := by
  rintro u ⟨⟩; exact h

theorem State.Preserves.event {s t : State} (h : s.Preserves t) : s.AnswerPreserves (s.event t) := by
  unfold State.event
  split
  · exact (State.Preserves.refl s).next
  · exact (h.keep (s.noticeAppends_keeps t)).next

theorem State.Keeps.event {s t : State} (h : s.Keeps t) : s.AnswerPreserves (s.event t) := h.preserves.event

theorem State.wordEvent_preserves (s : State) (a : Addr) (owner : State → State)
    (h : ∀ t : State, t.Preserves (owner t)) : s.AnswerPreserves (s.wordEvent a owner) := by
  unfold State.wordEvent
  split
  · exact (((s.afterWord_keeps a).preserves.trans (h _)).keep (s.noticeAppends_keeps _)).next
  · exact (State.Preserves.refl s).next

/-- An expiry that a guard on the power state lets act: the bay is BOUND then (R3, R23). -/
theorem State.expiry_preserves {s t : State} {b : BayId} {due : Bool} {p : PowerState} (hp : p ≠ .unknown)
    (h : (s.bay b).power = p → s.Serves b t) :
    s.AnswerPreserves (s.event (if due && (s.bay b).power = p then t else s)) :=
  State.Preserves.event (.ite (fun hc => by
    simp only [Bool.and_eq_true, decide_eq_true_eq] at hc
    exact (h hc.2).preserves (by rwa [hc.2])) fun _ => .refl s)

theorem execXalertAsserted_preserves (n : BusId) (s : State) : s.AnswerPreserves (execXalertAsserted n s) := by
  have hset : s.Keeps (s.setAlert n true) := .of_frame rfl rfl
  unfold execXalertAsserted
  split
  · exact (State.Preserves.refl s).next
  · split
    · exact hset.preserves.next
    · exact fun t ht => hset.preserves.trans ((State.evalSweep_keeps _ n).event t ht)

theorem State.frameStart_keeps (s : State) : s.Keeps s.frameStart := by
  unfold State.frameStart
  split
  · exact .ite (fun _ => .of_frame rfl rfl) fun _ => .of_frame rfl rfl
  · exact .refl s

theorem State.frameEnd_keeps (s : State) (bits : List Bool) : s.Keeps (s.frameEnd bits) := by
  unfold State.frameEnd
  exact .ite (fun _ => .of_frame rfl rfl) fun _ => .of_frame rfl rfl

theorem execStartUp_preserves (s : State) : s.AnswerPreserves (execStartUp s) := by
  unfold execStartUp
  split
  · exact (((s.resetBlocks_preserves _ _).trans (State.startUp_preserves _)).keep (State.noticeAppends_keeps _ _)).next
  · exact (State.Preserves.refl s).next

theorem execAttemptDataLineLow_preserves (n : BusId) (s : State) :
    s.AnswerPreserves (execAttemptDataLineLow n s) := by
  refine State.Preserves.event ?_
  split
  · exact .refl s
  · next tx a hw => exact (s.attemptTimeout_keeps n tx a (BusState.current_of_onWire hw)).preserves

theorem execClockStretchTimeout_preserves (n : BusId) (s : State) :
    s.AnswerPreserves (execClockStretchTimeout n s) := by
  refine State.Preserves.event ?_
  split
  · next tx a sp hb => exact (s.attemptTimeout_keeps n tx a (by rw [hb]; rfl)).preserves
  · next tx a p sp hb => exact s.passFails_preserves n tx a p (by rw [hb]; rfl)
  · exact .refl s

theorem execRecoveryPassEnd_preserves (n : BusId) (dataHigh : Bool) (s : State) :
    s.AnswerPreserves (execRecoveryPassEnd n dataHigh s) := by
  refine State.Preserves.event ?_
  split
  · next tx a p sp hb =>
    have hc : (s.engine n).bus.current = some tx := by rw [hb]; rfl
    exact .ite (fun _ => s.passSucceeds_preserves n tx a hc) fun _ => s.passFails_preserves n tx a p hc
  · exact .refl s

theorem BusState.stretchStart_current (g : BusState) : g.stretchStart.current = g.current := by
  unfold BusState.stretchStart
  split <;> rfl

theorem BusState.stretchStop_current (g : BusState) : g.stretchStop.current = g.current := by
  unfold BusState.stretchStop
  split <;> rfl

theorem execSeedingReadComplete_preserves (n : BusId) (input output direction : Half) (s : State) :
    s.AnswerPreserves (execSeedingReadComplete n input output direction s) := by
  refine State.Preserves.event (s.completeTx_preserves n _ _ fun t e hk => .of_preserves fun ha => ?_)
  split
  · exact .refl t
  · exact t.bind_preserves _ input _ (ha.of_setup hk).1 (ha.of_setup hk).2

theorem wordOwner_preserves (c : Instr) (t : State) : t.Preserves (wordOwner c t) := by
  cases c with
  | registerWrite a w => exact t.writeWord_preserves a w
  | softReset w => exact t.writeControl_preserves w
  | bayConfigurationWrite b w => exact t.writeBayConfig_preserves b w
  | profileWrite p wordB w => exact (t.writeProfile_keeps p wordB w).preserves
  | classMapWrite w => exact (t.writeClassMap_keeps w).preserves
  | busConfigurationWrite n w => exact t.writeBusConfig_preserves n w
  | routingEntryWrite i w => exact (t.writeRoute_keeps i w).preserves
  | lineControlWrite k w => exact State.Keeps.preserves (.of_frame rfl rfl)
  | takeLineWindow w => exact (t.writeTake_keeps w).preserves
  | takeAnyWindow w => exact (t.writeTake_keeps w).preserves
  | overflowClear w => exact State.Keeps.preserves (.of_frame rfl rfl)
  | routeConflictClear w => exact State.Keeps.preserves (.of_frame rfl rfl)
  | portErrorClear w => exact State.Keeps.preserves (.of_frame rfl rfl)
  | hunt m tag => exact t.takeHunt_preserves m tag
  | busRestart m tag => exact t.takeRestart_preserves m tag
  | powerOn b tag args => exact (t.takeCommand_keeps b _ tag args).preserves
  | powerOff b tag args => exact (t.takeCommand_keeps b _ tag args).preserves
  | setInd b tag args => exact (t.takeCommand_keeps b _ tag args).preserves
  | lock b tag args => exact (t.takeCommand_keeps b _ tag args).preserves
  | unlock b tag args => exact (t.takeCommand_keeps b _ tag args).preserves
  | setAux b tag args => exact (t.takeCommand_keeps b _ tag args).preserves
  | clearFault b tag args => exact (t.takeCommand_keeps b _ tag args).preserves
  | refresh b tag args => exact (t.takeCommand_keeps b _ tag args).preserves
  | undefinedBayCommand b code tag args => exact (t.takeCommandCode_keeps b code tag args).preserves
  | undefinedGlobalCommand code m tag => exact t.takeGlobal_preserves code m tag
  | _ => exact .refl t

theorem exec_preserves_of_word {c : Instr} {a : Addr} (h : c.wordAddr = some a) (s : State) :
    s.AnswerPreserves (exec c s) := by
  rcases exec_of_wordAddr h s with hx | hx
  · rw [hx]; exact s.wordEvent_preserves a _ (wordOwner_preserves c)
  · rw [hx]; exact (State.Preserves.refl s).next

/-- Every command keeps both invariants. -/
theorem exec_preserves (c : Instr) (s : State) : s.AnswerPreserves (exec c s) := by
  cases c with
  | resetNAssert => exact (s.resetBlocks_preserves _ _).next
  | startUp => exact execStartUp_preserves s
  | timebaseTick => exact s.tick_keeps.event
  | pcsNFall => exact s.frameStart_keeps.preserves.next
  | pcsNRise bits => exact (s.frameEnd_keeps bits).preserves.next
  | rampTimeExpiry b => exact State.expiry_preserves nofun fun hp => s.endOfRamp_serves b hp
  | rampTimeout b => exact State.expiry_preserves nofun fun _ => s.takeFault_serves b _
  | clkToRstExpiry b => exact State.expiry_preserves nofun fun hp => s.releaseReset_serves b hp
  | drainStepExpiry b =>
    exact State.expiry_preserves nofun fun hp => (s.modifyBay_keeps b _).serves.trans
      (State.drainCompute_serves _ _ b (by rw [State.modifyBay_bay_self]; simp [Bay.Steady, hp]))
  | cooldownExpiry b =>
    exact State.expiry_preserves nofun fun _ => (s.modifyBay_keeps b _).serves.trans (State.cooldownEnds_serves _ b)
  | debounceExpiry b => exact State.Keeps.event (.ite (fun _ => s.confirmCandidate_keeps b) fun _ => .refl s)
  | pollTimerExpiry n =>
    exact State.Keeps.event (.ite (fun _ => (s.pollReads_keeps n).trans (State.modifyEngine_keeps_frame _ n _))
      fun _ => .refl s)
  | xalertAsserted n => exact execXalertAsserted_preserves n s
  | xalertDeasserted n => exact State.Preserves.next (State.Keeps.preserves (.of_frame rfl rfl))
  | beginTransaction n => exact (s.beginNext_preserves n).event
  | outputWriteComplete n => exact (s.completeTx_preserves n _ _ fun t e hk => t.writeDone_finishes e hk).event
  | inputReadComplete n i o d =>
    exact (s.completeTx_preserves n _ _ fun t e hk => t.readDone_finishes e hk i o d).event
  | probeAcknowledged n => exact (s.completeTx_preserves n _ _ fun t e hk => t.probeFound_finishes e hk).event
  | identReadComplete n v => exact (s.completeTx_preserves n _ _ fun t e hk => t.identJudged_finishes e hk v).event
  | setupReadComplete n o d k r =>
    exact (s.completeTx_preserves n _ _ fun t e hk => t.readbackJudged_finishes e hk _).event
  | forceSafeWriteComplete n => exact (s.completeTx_preserves n _ _ fun t e hk => t.forceSafeDone_finishes e hk).event
  | seedingReadComplete n i o d => exact execSeedingReadComplete_preserves n i o d s
  | attemptNack n => exact (s.nack_preserves n).event
  | attemptDataLineLow n => exact execAttemptDataLineLow_preserves n s
  | clockStretchRelease n =>
    exact (s.modifyEngine_keeps n _ (.of_current (BusState.stretchStop_current _)) (.refl _)).event
  | clockStretchTimeout n => exact execClockStretchTimeout_preserves n s
  | recoveryPassEnd n dataHigh => exact execRecoveryPassEnd_preserves n dataHigh s
  | pulseHighEnd k => exact State.Keeps.event (.of_frame rfl rfl)
  | pulseGapEnd k => exact State.Keeps.event (.of_frame rfl rfl)
  | clockStretchDetected n =>
    exact (s.modifyEngine_keeps n _ (.of_current (BusState.stretchStart_current _)) (.refl _)).event
  | _ => exact exec_preserves_of_word rfl s

/-- Every step keeps both invariants: taking a command from the queue touches neither bays nor engines. -/
theorem step_preserves {s t : State} (h : step s = .next t) : s.Preserves t := by
  unfold step at h
  split at h
  · cases h; exact .refl s
  · next c rest _ =>
    have hpop : s.Keeps { s with pending := rest } := .of_frame rfl rfl
    exact hpop.preserves.trans (exec_preserves c _ t h)

/-- Settles O57: the invariant of links is one half of what `step_preserves` says. -/
theorem stepKeepsLinksConsistent : Obligations.StepKeepsLinksConsistent :=
  fun _ _ hs h => (step_preserves h).links hs

/-- Settles O58: the invariant of images is the other half; consistent links say that a bay without link, which
adoption and force safe write to, is in no power sequence. -/
theorem stepKeepsImagesLawful : Obligations.StepKeepsImagesLawful :=
  fun _ _ hs hi h => (step_preserves h).images hs hi

end Sys2Proof.Machine

/-! # Sweeps, and the tick -/

namespace Sys2Proof.Machine

/-! ## The tick (R17, R18) -/

/-- Settles O7: the tick is an event that tells no record, and ages bay by bay and bus by bus. -/
theorem tickAgesTimers : Obligations.TickAgesTimers := by
  intro s h
  refine ⟨s.tick, State.event_quiet s s.tick h rfl, rfl, fun b => ?_, fun n => ?_, rfl⟩
  · have hage : Candidate.age = fun c => match c.phase with
        | .timing n => { c with phase := .timing (n - 1) }
        | .confirming => c := by
      funext c
      unfold Candidate.age
      cases c.phase <;> rfl
    rw [State.tick_bay, Bay.age, hage]
    rfl
  · rw [State.tick_engine]
    exact ⟨rfl, rfl, rfl, rfl, rfl, rfl⟩

/-! ## What the work of a sweep leaves alone (R87 to R89) -/

/-- Of `s`, only the queue and the sweep of bus `n` have changed. -/
structure State.SweepWork (s : State) (n : BusId) (t : State) : Prop where
  frame : t = { s with engines := t.engines }
  engine : t.engine n = { s.engine n with queue := (t.engine n).queue, sweep := (t.engine n).sweep }
  other : ∀ m, m ≠ n → t.engine m = s.engine m

theorem State.SweepWork.refl (s : State) (n : BusId) : s.SweepWork n s := ⟨rfl, rfl, fun _ _ => rfl⟩

theorem State.SweepWork.trans {s t u : State} {n : BusId} (h : s.SweepWork n t) (h' : t.SweepWork n u) :
    s.SweepWork n u where
  frame := by
    have hu := h'.frame
    rw [h.frame] at hu
    exact hu
  engine := by
    have hu := h'.engine
    rw [h.engine] at hu
    exact hu
  other m hm := (h'.other m hm).trans (h.other m hm)

theorem State.SweepWork.of_modifyEngine (s : State) (n : BusId) (f : Engine → Engine)
    (hf : ∀ e, f e = { e with queue := (f e).queue, sweep := (f e).sweep } := by exact fun _ => rfl) :
    s.SweepWork n (s.modifyEngine n f) where
  frame := rfl
  engine := by rw [State.modifyEngine_engine_self]; exact hf _
  other m hm := State.modifyEngine_engine_ne s n m f hm

section SweepWorkFields
variable {s t : State} {n : BusId} (h : s.SweepWork n t)
include h

theorem State.SweepWork.bays : t.bays = s.bays := by rw [h.frame]

theorem State.SweepWork.bay (c : BayId) : t.bay c = s.bay c := by rw [State.bay, h.bays]; rfl

theorem State.SweepWork.events : t.events = s.events := by rw [h.frame]

theorem State.SweepWork.shell : t.shell = s.shell := by rw [h.frame]; rfl

theorem State.SweepWork.bus : (t.engine n).bus = (s.engine n).bus := by rw [h.engine]

theorem State.SweepWork.hunt : (t.engine n).hunt = (s.engine n).hunt := by rw [h.engine]

theorem State.SweepWork.takes : (t.engine n).takes = (s.engine n).takes := by rw [h.engine]; rfl

theorem State.SweepWork.sweepCondition : t.sweepCondition n = s.sweepCondition n := by
  have halerts : t.alerts = s.alerts := by rw [h.frame]
  simp only [State.sweepCondition, halerts, h.takes, h.bay]

end SweepWorkFields

theorem State.requestRead_sweepWork (s : State) (b : BayId) (w : Waiters) :
    s.SweepWork (busOf b) (s.requestRead b w) := by
  unfold State.requestRead
  split
  · exact .of_modifyEngine s _ _
  · exact .refl s _

theorem State.foldl_sweepWork (n : BusId) (f : State → BayId → State) :
    ∀ (l : List BayId) (s : State), (∀ b ∈ l, ∀ t : State, t.SweepWork n (f t b)) → s.SweepWork n (l.foldl f s)
  | [], s, _ => .refl s n
  | b :: l, s, h => (h b (List.mem_cons_self ..) s).trans
      (State.foldl_sweepWork n f l _ fun c hc => h c (List.mem_cons_of_mem b hc))

/-- The request of a sweep read (R88). -/
def State.requestSweepRead (s : State) (b : BayId) : State := s.requestRead b { Waiters.none with sweep := true }

/-- The bays that a sweep of bus `n` waits for (R88). -/
def State.sweepBays (s : State) (n : BusId) : List BayId := (baysOf n).filter fun b => (s.bay b).link = .bound

theorem State.startSweep_eq (s : State) (n : BusId) :
    s.startSweep n = ((s.sweepBays n).foldl State.requestSweepRead s).modifyEngine n fun e =>
      { e with sweep := some (s.sweepBays n) } := rfl

theorem State.busOf_of_mem_sweepBays {s : State} {n : BusId} {b : BayId} (h : b ∈ s.sweepBays n) : busOf b = n :=
  busOf_of_mem_baysOf n b (List.mem_of_mem_filter h)

theorem State.sweepReads_sweepWork (s : State) (n : BusId) :
    s.SweepWork n ((s.sweepBays n).foldl State.requestSweepRead s) :=
  State.foldl_sweepWork n _ _ s fun _ hb t => State.busOf_of_mem_sweepBays hb ▸ t.requestRead_sweepWork _ _

theorem State.startSweep_sweepWork (s : State) (n : BusId) : s.SweepWork n (s.startSweep n) := by
  rw [State.startSweep_eq]
  exact (s.sweepReads_sweepWork n).trans (.of_modifyEngine _ n _)

theorem State.evalSweep_sweepWork (s : State) (n : BusId) : s.SweepWork n (s.evalSweep n) := by
  unfold State.evalSweep
  split
  · exact s.startSweep_sweepWork n
  · exact .refl s n

theorem State.sweepLeave_sweepWork (s : State) (b : BayId) : s.SweepWork (busOf b) (s.sweepLeave b) := by
  unfold State.sweepLeave
  split
  · exact .refl s _
  · dsimp only
    split
    · exact (State.SweepWork.of_modifyEngine s _ _).trans (State.evalSweep_sweepWork _ _)
    · exact .of_modifyEngine s _ _

/-! ## What a sweep starts (R88) -/

/-- A read of bay `b` that answers the sweep is among `q` (R88). -/
def HasSweepRead (q : List Entry) (b : BayId) : Prop :=
  ∃ e ∈ q, e.kind = .inputRead ∧ e.bay = b ∧ e.waiters.sweep = true

theorem HasSweepRead.queueRead {q : List Entry} {c : BayId} (h : HasSweepRead q c) (b : BayId) (w : Waiters) :
    HasSweepRead (queueRead q b w) c := by
  obtain ⟨e, he, hk, hb, hs⟩ := h
  unfold Machine.queueRead
  split
  · refine ⟨_, List.mem_map.mpr ⟨e, he, rfl⟩, ?_⟩
    split
    · exact ⟨hk, hb, by simp [Waiters.join, hs]⟩
    · exact ⟨hk, hb, hs⟩
  · exact ⟨e, List.mem_append_left _ he, hk, hb, hs⟩

theorem hasSweepRead_queueRead (q : List Entry) (b : BayId) :
    HasSweepRead (queueRead q b { Waiters.none with sweep := true }) b := by
  unfold Machine.queueRead
  split
  · next h =>
    obtain ⟨e, he, hr⟩ := List.any_eq_true.mp h
    obtain ⟨hk, hb⟩ : e.kind = .inputRead ∧ e.bay = b := by simpa [Entry.isRead] using hr
    exact ⟨_, List.mem_map.mpr ⟨e, he, rfl⟩, by simp [hr, hk], by simp [hr, hb], by simp [hr, Waiters.join]⟩
  · exact ⟨_, List.mem_append_right _ (List.mem_singleton_self _), rfl, rfl, rfl⟩

theorem State.requestRead_hasSweepRead {s : State} {n : BusId} {c : BayId} (h : HasSweepRead (s.engine n).queue c)
    (b : BayId) (w : Waiters) : HasSweepRead ((s.requestRead b w).engine n).queue c := by
  unfold State.requestRead
  split
  · rw [State.modifyEngine_engine]
    split
    · next hn => rw [hn] at h; exact h.queueRead b w
    · exact h
  · exact h

theorem State.foldl_hasSweepRead {n : BusId} {c : BayId} :
    ∀ (l : List BayId) (s : State), HasSweepRead (s.engine n).queue c →
      HasSweepRead ((l.foldl State.requestSweepRead s).engine n).queue c
  | [], _, h => h
  | b :: l, _, h => State.foldl_hasSweepRead l _ (State.requestRead_hasSweepRead h b _)

theorem State.requestSweepRead_hasSweepRead (s : State) (b : BayId) (hl : (s.bay b).link = .bound)
    (ht : (s.engine (busOf b)).takes = true) : HasSweepRead ((s.requestSweepRead b).engine (busOf b)).queue b := by
  unfold State.requestSweepRead State.requestRead
  rw [if_pos (by simp [hl, ht]), State.modifyEngine_engine_self]
  exact hasSweepRead_queueRead _ b

/-- Each BOUND bay of a bus that takes requests has a sweep read queued once it has been asked for. -/
theorem State.foldl_requestSweepRead {n : BusId} {c : BayId} (l : List BayId) (s : State)
    (hl : ∀ b ∈ l, busOf b = n) (hc : c ∈ l) (hlink : (s.bay c).link = .bound) (ht : (s.engine n).takes = true) :
    HasSweepRead ((l.foldl State.requestSweepRead s).engine n).queue c := by
  induction l generalizing s with
  | nil => cases hc
  | cons b l ih =>
    have hb : busOf b = n := hl b (List.mem_cons_self ..)
    have hwork : s.SweepWork n (s.requestSweepRead b) := hb ▸ s.requestRead_sweepWork b _
    rw [List.foldl_cons]
    rcases List.mem_cons.mp hc with rfl | hc
    · subst hb
      exact State.foldl_hasSweepRead l _ (s.requestSweepRead_hasSweepRead c hlink ht)
    · exact ih _ (fun d hd => hl d (List.mem_cons_of_mem b hd)) hc (by rwa [hwork.bay]) (by rwa [hwork.takes])

theorem mem_baysOf_busOf : ∀ b : BayId, b ∈ baysOf (busOf b) := by decide

/-- A sweep whose condition holds starts with a read of every BOUND bay (R88). -/
theorem State.startSweep_started (s : State) (n : BusId) (h : s.sweepCondition n = true) :
    (s.startSweep n).SweepStarted n := by
  have htakes : (s.engine n).takes = true := by
    simp only [State.sweepCondition, Bool.and_eq_true] at h
    exact h.1.2
  have hbay := (s.startSweep_sweepWork n).bay
  refine ⟨?_, fun b hb hl => ?_⟩
  · simp only [hbay]
    rw [State.startSweep_eq, State.modifyEngine_engine_self]
    rfl
  · rw [hbay] at hl
    rw [State.startSweep_eq, State.modifyEngine_engine_self]
    have hmem : b ∈ s.sweepBays n := List.mem_filter.mpr ⟨hb ▸ mem_baysOf_busOf b, by simpa using hl⟩
    exact State.foldl_requestSweepRead _ s (fun _ => State.busOf_of_mem_sweepBays) hmem hl htakes

/-- A bay leaves the sweep as R89 says. -/
theorem State.sweepLeave_swept (s : State) (b : BayId) : s.SweepLeft (s.sweepLeave b) (busOf b) b := by
  unfold State.SweepLeft
  cases hs : (s.engine (busOf b)).sweep with
  | none => simp [State.sweepLeave, hs]
  | some waiting =>
    dsimp only
    by_cases hrest : (waiting.filter fun c => c ≠ b) = []
    · rw [if_neg (by simpa using hrest)]
      have hleave : s.sweepLeave b =
          (s.modifyEngine (busOf b) fun e => { e with sweep := none }).evalSweep (busOf b) := by
        simp only [State.sweepLeave, hs, hrest, List.isEmpty_nil, if_true]
      have hcond := (State.evalSweep_sweepWork (s.modifyEngine (busOf b) fun e => { e with sweep := none })
        (busOf b)).sweepCondition
      rw [hleave, hcond, State.evalSweep]
      cases hc : (s.modifyEngine (busOf b) fun e => { e with sweep := none }).sweepCondition (busOf b) with
      | true => simpa using State.startSweep_started _ _ hc
      | false => simp
    · rw [if_pos hrest]
      have hne : (waiting.filter fun c => c ≠ b).isEmpty = false := by simpa using hrest
      simp only [State.sweepLeave, hs, hne]
      simp

/-- What is asked of a bay's leaving a sweep reads of the state before the sweep alone. -/
theorem State.SweepLeft.of_sweep {s s' t : State} {n : BusId} {b : BayId} (h : s.SweepLeft t n b)
    (hs : (s'.engine n).sweep = (s.engine n).sweep) : s'.SweepLeft t n b := by
  unfold State.SweepLeft at *
  rwa [hs]

/-- What is asked of a bay's leaving a sweep reads of the state after it the alert, the links and the engine. -/
theorem State.SweepLeft.of_after {s t u : State} {n : BusId} {b : BayId} (h : s.SweepLeft t n b)
    (halerts : u.alerts = t.alerts) (hlink : ∀ c, (u.bay c).link = (t.bay c).link)
    (htakes : (u.engine n).takes = (t.engine n).takes) (hqueue : (u.engine n).queue = (t.engine n).queue)
    (hsweep : (u.engine n).sweep = (t.engine n).sweep) : s.SweepLeft u n b := by
  have hcond : u.sweepCondition n = t.sweepCondition n := by
    simp only [State.sweepCondition, halerts, hlink, htakes]
  have hstarted : u.SweepStarted n ↔ t.SweepStarted n := by
    simp only [State.SweepStarted, hlink, hqueue, hsweep]
  unfold State.SweepLeft at *
  rw [hcond, hsweep, propext hstarted]
  exact h

end Sys2Proof.Machine

/-! # Transactions of a released bay -/

namespace Sys2Proof.Machine

/-- A successful attempt of an ignored transaction (R115). -/
theorem State.completeTx_ignored {s : State} {n : BusId} {tx : Tx} {a : Nat} {sp : Speed} {k : TxKind}
    (hb : (s.engine n).bus = .active tx a sp none) (hi : tx.ignored = true) (hk : tx.entry.kind = k)
    (handed : State → Entry → State) : s.completeTx n k handed = s.endIgnored n tx := by
  simp [State.completeTx, hb, BusState.onWire, hk, hi]

theorem State.nack_ignored {s : State} {n : BusId} {tx : Tx} {a : Nat} {sp : Speed}
    (hb : (s.engine n).bus = .active tx a sp none) (hi : tx.ignored = true) : s.nack n = s.endIgnored n tx := by
  simp [State.nack, hb, BusState.onWire, hi]

theorem State.countFailure_ignored {s : State} {tx : Tx} (hi : tx.ignored = true) : s.countFailure tx = s := by
  simp [State.countFailure, hi]

theorem State.endIgnored_of_sweep {s : State} {n : BusId} {tx : Tx} (h : tx.entry.waiters.sweep = true) :
    s.endIgnored n tx = (s.busIdle n).sweepLeave tx.entry.bay := by
  simp [State.endIgnored, h]

theorem State.endIgnored_of_no_sweep {s : State} {n : BusId} {tx : Tx} (h : tx.entry.waiters.sweep = false) :
    s.endIgnored n tx = s.busIdle n := by
  simp [State.endIgnored, h]

/-- After the bus has become IDLE, an ignored transaction moves nothing but the sweep. -/
theorem State.endIgnored_sweepWork (s : State) (tx : Tx) :
    (s.busIdle (busOf tx.entry.bay)).SweepWork (busOf tx.entry.bay) (s.endIgnored (busOf tx.entry.bay) tx) := by
  cases h : tx.entry.waiters.sweep with
  | true => rw [State.endIgnored_of_sweep h]; exact State.sweepLeave_sweepWork _ _
  | false => rw [State.endIgnored_of_no_sweep h]; exact .refl _ _

/-- Settles O18: every end of an ignored transaction is `State.endIgnored`, which tells no record. -/
theorem ignoredTransactions : Obligations.IgnoredTransactions := by
  rintro n tx a p sp s hlow hi rfl ends
  have hwork := s.endIgnored_sweepWork tx
  have hends : ∀ c, exec c s = s.event (s.endIgnored (busOf tx.entry.bay) tx) → ends c := fun c hc => by
    refine ⟨_, hc.trans (State.event_quiet s _ hlow hwork.events), hwork.bays, hwork.events, ?_, fun hs => ?_,
      fun hs => State.endIgnored_of_no_sweep hs, ⟨fun c _ => hwork.bay c, fun m hm => ?_⟩, hwork.shell⟩
    · rw [hwork.bus, State.busIdle, State.modifyEngine_engine_self]
    · rw [State.endIgnored_of_sweep hs]
      refine (State.sweepLeave_swept _ _).of_sweep ?_
      rw [State.busIdle, State.modifyEngine_engine_self]
    · rw [hwork.other m hm]
      exact State.modifyEngine_engine_ne s _ m _ hm
  refine ⟨fun hb => ?_, fun hb => hends _ ?_⟩
  · have hcompletes : ∀ (c : Instr) (k : TxKind) (handed : State → Entry → State), tx.entry.kind = k →
        exec c s = s.event (s.completeTx (busOf tx.entry.bay) k handed) → ends c := fun c k handed hk hc =>
      hends c (by rw [hc, State.completeTx_ignored hb hi hk])
    refine ⟨fun hk => hcompletes _ _ _ hk rfl, fun hk _ _ _ => hcompletes _ _ _ hk rfl,
      fun hk => hcompletes _ _ _ hk rfl, fun hk _ => hcompletes _ _ _ hk rfl,
      fun hk _ _ _ _ => hcompletes _ _ _ hk rfl, fun hk => hcompletes _ _ _ hk rfl,
      fun hk _ _ _ => hcompletes _ _ _ hk rfl, hends _ ?_, ?_⟩
    · exact congrArg s.event (State.nack_ignored hb hi)
    · have htimeout : exec (.attemptDataLineLow (busOf tx.entry.bay)) s =
          s.event (s.attemptTimeout (busOf tx.entry.bay) tx a) := by
        show execAttemptDataLineLow (busOf tx.entry.bay) s = _
        simp [execAttemptDataLineLow, hb, BusState.onWire]
      rw [htimeout, State.attemptTimeout, State.countFailure_ignored hi]
      exact State.event_quiet s _ hlow rfl
  · show execRecoveryPassEnd (busOf tx.entry.bay) true s = _
    simp [execRecoveryPassEnd, hb, State.passSucceeds, hi]

end Sys2Proof.Machine

/-! # Bay configuration words (R4 to R6, R30) -/

namespace Sys2Proof.Machine

/-! ## Updates of the target -/

/-- An update that changes no field (R11). -/
theorem State.updateTarget_of_eq {s : State} {b : BayId} {f : Image → Image} (h : f (s.bay b).target = (s.bay b).target)
    (u : Bool) : s.updateTarget b f u = s := if_pos h

/-- The write that an update of a BOUND bay requests (R11, R110). -/
theorem State.updateTarget_queue {s : State} {b : BayId} {f : Image → Image} (h : f (s.bay b).target ≠ (s.bay b).target)
    (hl : (s.bay b).link = .bound) (ht : (s.engine (busOf b)).takes = true) (u : Bool) :
    ((s.updateTarget b f u).engine (busOf b)).queue = queueWrite (s.engine (busOf b)).queue b u := by
  unfold State.updateTarget State.requestWrite
  rw [if_neg h, if_pos (by simp [hl, ht]), State.modifyEngine_engine_self]
  rfl

/-- An output write of bay `b` is among `q`. -/
def HasWrite (q : List Entry) (b : BayId) : Prop := ∃ e ∈ q, e.kind = .outputWrite ∧ e.bay = b

theorem hasWrite_queueWrite (q : List Entry) (b : BayId) (u : Bool) : HasWrite (queueWrite q b u) b := by
  unfold queueWrite
  split
  · next h =>
    obtain ⟨e, he, hw⟩ := List.any_eq_true.mp h
    obtain ⟨hk, hb⟩ : e.kind = .outputWrite ∧ e.bay = b := by simpa [Entry.isWrite] using hw
    exact ⟨_, List.mem_map.mpr ⟨e, he, rfl⟩, by simp [hw, hk], by simp [hw, hb]⟩
  · exact ⟨_, List.mem_append_right _ (List.mem_singleton_self _), rfl, rfl⟩

theorem HasWrite.requestRead {s : State} {b : BayId} (h : HasWrite (s.engine (busOf b)).queue b) (w : Waiters) :
    HasWrite ((s.requestRead b w).engine (busOf b)).queue b := by
  obtain ⟨e, he, hk, hb⟩ := h
  unfold State.requestRead
  split
  · rw [State.modifyEngine_engine_self]
    unfold queueRead
    dsimp only
    split
    · refine ⟨_, List.mem_map.mpr ⟨e, he, rfl⟩, ?_⟩
      split <;> exact ⟨hk, hb⟩
    · exact ⟨e, List.mem_append_left _ he, hk, hb⟩
  · exact ⟨e, he, hk, hb⟩

/-! ## The begin of a power-up (R24) -/

theorem rampUpdate_eq (c : BayConfig) (i : Image) :
    rampUpdate c i = { i with
      pwrEn := true, lock := i.lock || c.lockBeforePower, indP := if c.autoInd then .slow else i.indP } := by
  unfold rampUpdate Image.autoInd
  split <;> rfl

/-- A power-up up to its wait for the ramp update's write (R24). -/
def State.rampBegun (s : State) (b : BayId) : State :=
  ((s.modifyBay b fun x => { x with profile := s.classProfile b }).updateTarget b (rampUpdate (s.bay b).config)
    false).modifyBay b fun x =>
      { x with power := .ramp, timer := none, pendingUp := false, stepGen := some x.targetGen }

theorem State.beginPowerUp_eq (s : State) (b : BayId) :
    s.beginPowerUp b =
      if ((s.rampBegun b).bay b).stepReached then (s.rampBegun b).rampWaitEnd b else s.rampBegun b := rfl

/-- The end of the ramp wait starts a timer, and changes nothing else of the bay (R25). -/
theorem State.rampWaitEnd_bay (s : State) (b : BayId) :
    ∃ tm, (s.rampWaitEnd b).bay b = { s.bay b with timer := tm } := by
  unfold State.rampWaitEnd
  dsimp only
  split
  · exact ⟨_, State.modifyBay_bay_self s b _⟩
  · exact ⟨_, by rw [State.requestRead_bay_ne]; exact State.modifyBay_bay_self s b _⟩

/-- The bay once a power-up has begun (R24, R25). -/
theorem State.beginPowerUp_bay (s : State) (b : BayId) :
    ∃ tm g, (s.beginPowerUp b).bay b = { s.bay b with
      profile := s.classProfile b, target := rampUpdate (s.bay b).config (s.bay b).target, targetGen := g,
      power := .ramp, timer := tm, pendingUp := false, stepGen := some g } := by
  have hbegun : ∃ g, (s.rampBegun b).bay b = { s.bay b with
      profile := s.classProfile b, target := rampUpdate (s.bay b).config (s.bay b).target, targetGen := g,
      power := .ramp, timer := none, pendingUp := false, stepGen := some g } :=
    ⟨_, by rw [State.rampBegun, State.modifyBay_bay_self, State.updateTarget_bay, State.modifyBay_bay_self]⟩
  obtain ⟨g, hg⟩ := hbegun
  rw [State.beginPowerUp_eq]
  split
  · obtain ⟨tm, htm⟩ := (s.rampBegun b).rampWaitEnd_bay b
    exact ⟨tm, g, by rw [htm, hg]⟩
  · exact ⟨none, g, hg⟩

theorem State.rampWaitEnd_events (s : State) (b : BayId) : (s.rampWaitEnd b).events = s.events := by
  unfold State.rampWaitEnd State.startTimer
  dsimp only
  split
  · rfl
  · rw [State.requestRead_events]; rfl

theorem State.beginPowerUp_events (s : State) (b : BayId) : (s.beginPowerUp b).events = s.events := by
  have hbegun : (s.rampBegun b).events = s.events := by
    rw [State.rampBegun, State.modifyBay_events, State.updateTarget_events, State.modifyBay_events]
  rw [State.beginPowerUp_eq]
  split
  · rw [State.rampWaitEnd_events, hbegun]
  · exact hbegun

theorem State.rampWaitEnd_hasWrite {s : State} {b : BayId} (h : HasWrite (s.engine (busOf b)).queue b) :
    HasWrite ((s.rampWaitEnd b).engine (busOf b)).queue b := by
  unfold State.rampWaitEnd
  dsimp only
  split
  · exact h
  · refine HasWrite.requestRead ?_ _
    exact h

/-- The ramp update of a BOUND bay requests a write where it changes the target (R11, R24). -/
theorem State.beginPowerUp_hasWrite {s : State} {b : BayId}
    (h : rampUpdate (s.bay b).config (s.bay b).target ≠ (s.bay b).target) (hl : (s.bay b).link = .bound)
    (ht : (s.engine (busOf b)).takes = true) : HasWrite ((s.beginPowerUp b).engine (busOf b)).queue b := by
  have hbegun : HasWrite ((s.rampBegun b).engine (busOf b)).queue b := by
    rw [State.rampBegun, State.modifyBay_engine, State.updateTarget_queue]
    · exact hasWrite_queueWrite _ b _
    · rwa [State.modifyBay_bay_self]
    · rwa [State.modifyBay_bay_self]
    · exact ht
  rw [State.beginPowerUp_eq]
  split
  · exact State.rampWaitEnd_hasWrite hbegun
  · exact hbegun

/-! ## Automatic start and indicator (R5, R6, R30) -/

theorem State.autoStartReady_iff (s : State) (b : BayId) :
    s.autoStartReady b = true ↔ (s.bay b).config.autoOn = true ∧ (s.bay b).accepted.present = true ∧
      (s.bay b).accepted.latchClosed = true ∧ s.classProfile b ≠ none := by
  simp [State.autoStartReady, Option.isSome_iff_ne_none, and_assoc]

theorem State.autoStart_started {s : State} {b : BayId} (hp : (s.bay b).power = .off)
    (h : s.autoStartReady b = true) : s.autoStart b = s.beginPowerUp b :=
  if_pos (by simp [hp, h])

theorem State.autoStart_rests {s : State} {b : BayId} (h : (s.bay b).power = .off → s.autoStartReady b = false) :
    s.autoStart b = s :=
  if_neg fun hc => by
    simp only [Bool.and_eq_true, decide_eq_true_eq] at hc
    rw [h hc.1] at hc
    cases hc.2

theorem State.correctIndicator_of_mode {s : State} {b : BayId} {m : IndMode} (hl : (s.bay b).link = .bound)
    (hm : (s.bay b).indicatorMode = some m) :
    s.correctIndicator b = s.updateTarget b (fun i => { i with indP := m }) false := by
  unfold State.correctIndicator
  rw [if_pos hl, hm]

theorem State.correctIndicator_rests {s : State} {b : BayId}
    (h : (s.bay b).link = .bound → (s.bay b).indicatorMode = none) : s.correctIndicator b = s := by
  unfold State.correctIndicator
  split
  · next hl => rw [h hl]
  · rfl

/-- An indicator that stands as its power state wants it is not corrected. -/
theorem State.correctIndicator_of_standing {s : State} {b : BayId}
    (h : ∀ m, (s.bay b).indicatorMode = some m → (s.bay b).target.indP = m) : s.correctIndicator b = s := by
  by_cases hl : (s.bay b).link = .bound
  · cases hm : (s.bay b).indicatorMode with
    | none => exact State.correctIndicator_rests fun _ => hm
    | some m =>
      rw [State.correctIndicator_of_mode hl hm]
      exact State.updateTarget_of_eq (by rw [← h m hm]) false
  · exact State.correctIndicator_rests fun h => absurd h hl

/-! ## The word (R4) -/

/-- Every configuration field of bay `b` is taken from the word (R4). -/
def State.configured (s : State) (b : BayId) (w : Word) : State :=
  s.modifyBay b fun x => { x with config := BayConfig.ofWord w }

/-- What AUTO_ON, then AUTO_IND, set from 0 start (R5, R6; log entry 11). -/
def State.actOnChanges (s : State) (b : BayId) (old new : BayConfig) : State :=
  let t := if !old.autoOn && new.autoOn then s.autoStart b else s
  if !old.autoInd && new.autoInd then t.correctIndicator b else t

theorem State.writeBayConfig_refused {s : State} {b : BayId} {w : Word}
    (h : (BayConfig.ofWord w).debounce = 0 ∨ ((s.bay b).config.managed = true ∧
      (BayConfig.ofWord w).managed = false ∧ (s.bay b).releaseRefused = true)) :
    s.writeBayConfig b w = s.setConfigRefused := by
  unfold State.writeBayConfig
  exact if_pos (by rcases h with h | ⟨h, h', h''⟩ <;> simp [*])

theorem State.writeBayConfig_kept {s : State} {b : BayId} {w : Word} (hd : (BayConfig.ofWord w).debounce ≠ 0)
    (hm : ¬ ((s.bay b).config.managed = true ∧ (BayConfig.ofWord w).managed = false)) :
    s.writeBayConfig b w = (s.configured b w).actOnChanges b (s.bay b).config (BayConfig.ofWord w) := by
  have hrel : ((s.bay b).config.managed && !(BayConfig.ofWord w).managed) = false := by
    simpa using hm
  unfold State.writeBayConfig
  dsimp only
  rw [hrel, if_neg (by simpa using hd)]
  rfl

theorem State.writeBayConfig_released {s : State} {b : BayId} {w : Word} (hd : (BayConfig.ofWord w).debounce ≠ 0)
    (hm : (s.bay b).config.managed = true) (hm' : (BayConfig.ofWord w).managed = false)
    (hr : (s.bay b).releaseRefused = false) :
    s.writeBayConfig b w = ((s.configured b w).release b).actOnChanges b (s.bay b).config (BayConfig.ofWord w) := by
  unfold State.writeBayConfig
  dsimp only
  rw [hm, hm', if_neg (by simpa [hr] using hd)]
  rfl

theorem exec_bayConfigurationWrite {b : BayId} {w : Word} {s : State}
    (h : s.takesWord (Reg.bay b .config).addr = true) :
    exec (.bayConfigurationWrite b w) s =
      .next (s.noticeAppends ((s.afterWord (Reg.bay b .config).addr).writeBayConfig b w)) :=
  State.wordEvent_taken s _ (fun t => t.writeBayConfig b w) h

/-- As `exec_bayConfigurationWrite`, for a word that tells no record. -/
theorem exec_bayConfigurationWrite_quiet {b : BayId} {w : Word} {s t : State}
    (h : s.takesWord (Reg.bay b .config).addr = true)
    (ht : (s.afterWord (Reg.bay b .config).addr).writeBayConfig b w = t) (he : t.events = s.events) :
    exec (.bayConfigurationWrite b w) s = .next t := by
  rw [exec_bayConfigurationWrite h, ht, State.noticeAppends_of_events s t he]

@[simp] theorem State.configured_bay (s : State) (b : BayId) (w : Word) :
    (s.configured b w).bay b = { s.bay b with config := BayConfig.ofWord w } := State.modifyBay_bay_self s b _

@[simp] theorem State.configured_classProfile (s : State) (b : BayId) (w : Word) :
    (s.configured b w).classProfile b = s.classProfile b := by
  simp [State.classProfile, State.configured]

theorem State.writeBayConfig_sameElsewhere (s : State) (a : Addr) (b : BayId) (w : Word) :
    s.SameElsewhere ((s.afterWord a).writeBayConfig b w) b :=
  ⟨fun c hc => State.writeBayConfig_bay_ne _ b w c hc, fun n hn => State.writeBayConfig_engine_ne _ b w n hn⟩

/-- A bay that R30 does not start rests: AUTO_ON starts nothing (R5). -/
theorem State.actOnChanges_rests {s : State} {b : BayId} {w : Word}
    (h : (s.bay b).config.autoOn = true ∨ (BayConfig.ofWord w).autoOn = false ∨ (s.bay b).power ≠ .off ∨
      (s.bay b).accepted.present = false ∨ (s.bay b).accepted.latchClosed = false ∨ s.classProfile b = none) :
    (s.configured b w).actOnChanges b (s.bay b).config (BayConfig.ofWord w) =
      if !(s.bay b).config.autoInd && (BayConfig.ofWord w).autoInd then (s.configured b w).correctIndicator b
      else s.configured b w := by
  have hstart : (if !(s.bay b).config.autoOn && (BayConfig.ofWord w).autoOn then (s.configured b w).autoStart b
      else s.configured b w) = s.configured b w := by
    split
    · next hon =>
      simp only [Bool.and_eq_true, Bool.not_eq_true'] at hon
      refine State.autoStart_rests fun hp => Bool.eq_false_iff.mpr fun hready => ?_
      rw [State.configured_bay] at hp
      rw [State.autoStartReady_iff, State.configured_bay, State.configured_classProfile] at hready
      obtain ⟨_, hpres, hlatch, hclass⟩ := hready
      simp_all
    · rfl
  unfold State.actOnChanges
  dsimp only
  rw [hstart]

/-- The start of a bay leaves nothing to correct: its indicator stands as RAMP wants it (R6, R24). -/
theorem State.actOnChanges_starts {s : State} {b : BayId} {w : Word} (hold : (s.bay b).config.autoOn = false)
    (hnew : (BayConfig.ofWord w).autoOn = true) (hp : (s.bay b).power = .off)
    (hpres : (s.bay b).accepted.present = true) (hlatch : (s.bay b).accepted.latchClosed = true)
    (hclass : s.classProfile b ≠ none) :
    (s.configured b w).actOnChanges b (s.bay b).config (BayConfig.ofWord w) = (s.configured b w).beginPowerUp b := by
  have hready : (s.configured b w).autoStartReady b = true := by
    rw [State.autoStartReady_iff, State.configured_bay, State.configured_classProfile]
    exact ⟨hnew, hpres, hlatch, hclass⟩
  have hstart : (if !(s.bay b).config.autoOn && (BayConfig.ofWord w).autoOn then (s.configured b w).autoStart b
      else s.configured b w) = (s.configured b w).beginPowerUp b := by
    rw [if_pos (by simp [hold, hnew]), State.autoStart_started (by rw [State.configured_bay]; exact hp) hready]
  unfold State.actOnChanges
  dsimp only
  rw [hstart]
  split
  · next hind =>
    simp only [Bool.and_eq_true] at hind
    obtain ⟨tm, g, hbay⟩ := (s.configured b w).beginPowerUp_bay b
    refine State.correctIndicator_of_standing fun m hm => ?_
    rw [hbay] at hm ⊢
    cases hm
    simp [rampUpdate_eq, hind.2]
  · rfl

end Sys2Proof.Machine

/-! # What a bay configuration word does -/

namespace Sys2Proof.Machine

/-- The indicator of a BOUND bay after the correction of R6. -/
theorem State.correctIndicator_bay {s : State} {b : BayId} {m : IndMode} (hl : (s.bay b).link = .bound)
    (hm : (s.bay b).indicatorMode = some m) :
    (s.correctIndicator b).bay b = { s.bay b with
      target := { (s.bay b).target with indP := m },
      targetGen := if (s.bay b).target.indP = m then (s.bay b).targetGen else (s.bay b).targetGen + 1 } := by
  have hchange : ({ (s.bay b).target with indP := m } : Image) = (s.bay b).target ↔ (s.bay b).target.indP = m :=
    ⟨fun h => congrArg Image.indP h.symm, fun h => by rw [← h]⟩
  rw [State.correctIndicator_of_mode hl hm, State.updateTarget_bay]
  simp only [hchange]

theorem State.correctIndicator_queue {s : State} {b : BayId} {m : IndMode} (hl : (s.bay b).link = .bound)
    (hm : (s.bay b).indicatorMode = some m) (hne : (s.bay b).target.indP ≠ m)
    (ht : (s.engine (busOf b)).takes = true) :
    ((s.correctIndicator b).engine (busOf b)).queue = queueWrite (s.engine (busOf b)).queue b false := by
  rw [State.correctIndicator_of_mode hl hm]
  exact State.updateTarget_queue (fun h => hne (congrArg Image.indP h.symm)) hl ht false

theorem State.correctIndicator_events (s : State) (b : BayId) : (s.correctIndicator b).events = s.events := by
  unfold State.correctIndicator
  split
  · split
    · rfl
    · rw [State.updateTarget_events]
  · rfl

/-- Settles O16: a word that is taken sets the fields, and then acts as `actOnChanges_rests` and
`actOnChanges_starts` say. -/
theorem bayConfigurationWord : Obligations.BayConfigurationWord := by
  intro b w s ht x c s' plain
  refine ⟨fun h => exec_bayConfigurationWrite_quiet ht (State.writeBayConfig_refused h) rfl, fun hd hm => ?_⟩
  have hkept := State.writeBayConfig_kept (s := s') hd hm
  have helse := s.writeBayConfig_sameElsewhere (Reg.bay b .config).addr b w
  intro corrects rests
  refine ⟨fun hr hc => ?_, fun hr hold hnew hl m hmode => ?_, fun hold hnew hp hpres hlatch hclass => ?_⟩
  · refine exec_bayConfigurationWrite_quiet ht ((hkept.trans (State.actOnChanges_rests hr)).trans ?_) rfl
    split
    · next hind =>
      rw [Bool.and_eq_true, Bool.not_eq_true'] at hind
      refine State.correctIndicator_rests fun hl => ?_
      rw [State.configured_bay] at hl ⊢
      exact not_not.mp fun hmode => hc ⟨hind.1, hind.2, hl, hmode⟩
    · rfl
  · have hl' : ((s'.configured b w).bay b).link = .bound := by rw [State.configured_bay]; exact hl
    have hmode' : ((s'.configured b w).bay b).indicatorMode = some m := by rw [State.configured_bay]; exact hmode
    have hind : (!(s'.bay b).config.autoInd && c.autoInd) = true := by
      rw [Bool.and_eq_true, Bool.not_eq_true']
      exact ⟨hold, hnew⟩
    have hres : s'.writeBayConfig b w = (s'.configured b w).correctIndicator b :=
      (hkept.trans (State.actOnChanges_rests hr)).trans (if_pos hind)
    have hev : ((s'.configured b w).correctIndicator b).events = s.events := by
      rw [State.correctIndicator_events]; rfl
    refine ⟨_, exec_bayConfigurationWrite_quiet ht hres hev, ?_, fun hne htakes => ?_, hev, hres ▸ helse, ?_⟩
    · rw [State.correctIndicator_bay hl' hmode', State.configured_bay]
      rfl
    · exact State.correctIndicator_queue hl' hmode' (by rw [State.configured_bay]; exact hne) htakes
    · rw [State.correctIndicator_shell]; rfl
  · have hres : s'.writeBayConfig b w = (s'.configured b w).beginPowerUp b :=
      hkept.trans (State.actOnChanges_starts hold hnew hp hpres hlatch hclass)
    have hev : ((s'.configured b w).beginPowerUp b).events = s.events := by
      rw [State.beginPowerUp_events]; rfl
    obtain ⟨tm, g, hbay⟩ := (s'.configured b w).beginPowerUp_bay b
    rw [State.configured_bay, State.configured_classProfile, rampUpdate_eq] at hbay
    refine ⟨_, exec_bayConfigurationWrite_quiet ht hres hev, by rw [hbay], by rw [hbay], by rw [hbay]; rfl,
      by rw [hbay], by rw [hbay]; rfl, by rw [hbay], by rw [hbay]; rfl, fun hne hl htakes => ?_, hev, hres ▸ helse, ?_⟩
    · refine State.beginPowerUp_hasWrite ?_ (by rw [State.configured_bay]; exact hl) htakes
      rw [State.configured_bay, rampUpdate_eq]
      rw [hbay] at hne
      exact hne
    · rw [State.beginPowerUp_shell]; rfl

end Sys2Proof.Machine

/-! # Release from management (R7, R8, R112) -/

namespace Sys2Proof.Machine

/-! ## Records told from states that tell alike -/

/-- From `s` and `t` the same details make the same records (R148). -/
structure State.TellsAs (s t : State) : Prop where
  events : s.events = t.events
  routing : s.routing = t.routing
  millis : s.millis = t.millis

theorem State.TellsAs.refl (s : State) : s.TellsAs s := ⟨rfl, rfl, rfl⟩

theorem State.TellsAs.trans {s t u : State} (h : s.TellsAs t) (h' : t.TellsAs u) : s.TellsAs u :=
  ⟨h.events.trans h'.events, h.routing.trans h'.routing, h.millis.trans h'.millis⟩

theorem State.TellsAs.of_shell {s t : State} (he : s.events = t.events) (hs : s.shell = t.shell) : s.TellsAs t :=
  ⟨he, congrArg Shell.routing hs, congrArg Shell.millis hs⟩

theorem State.modifyBay_tells (s : State) (b : BayId) (f : Bay → Bay) : (s.modifyBay b f).TellsAs s := ⟨rfl, rfl, rfl⟩

theorem State.TellsAs.enqueue {s t : State} (h : s.TellsAs t) (src : Source) (d : Detail) :
    (s.enqueue src d).TellsAs (t.enqueue src d) :=
  ⟨by simp only [State.enqueue_events, h.events, h.routing, h.millis], h.routing, h.millis⟩

theorem State.TellsAs.enqueueAll {s t : State} (h : s.TellsAs t) (src : Source) (ds : List Detail) :
    (s.enqueueAll src ds).TellsAs (t.enqueueAll src ds) := by
  induction ds generalizing s t with
  | nil => exact h
  | cons d ds ih => exact ih (h.enqueue src d)

theorem State.TellsAs.tellHunt {s t : State} (h : s.TellsAs t) (n : BusId) (g : Option Hunt) :
    (s.tellHunt n g).TellsAs (t.tellHunt n g) := by
  cases g with
  | none => exact h
  | some g =>
    rw [State.tellHunt_some, State.tellHunt_some]
    split
    · exact h.enqueue _ _
    · exact h

/-! ## Departure (R7) -/

/-- The COMMAND record of a command that ends with result `r` (R59). -/
def Slot.endDetails (sl : Slot) (r : CommandResult) : List Detail :=
  match sl.inProgress, sl.code with
  | true, some c => [.command c sl.tag r]
  | _, _ => []

theorem departureDetails_eq (sl : Slot) (dest : LinkState) (cause : LinkCause) :
    departureDetails sl dest cause =
      sl.endDetails (departureResult cause) ++ [.link dest cause, .state .unknown .link] := by
  unfold departureDetails Slot.endDetails
  cases sl.inProgress <;> cases sl.code <;> rfl

theorem State.completeCommand_tells (s : State) (b : BayId) (r : CommandResult) :
    (s.completeCommand b r).TellsAs (s.enqueueAll (.bay b) ((s.bay b).slot.endDetails r)) := by
  unfold State.completeCommand Slot.endDetails
  cases hp : (s.bay b).slot.inProgress with
  | false => simpa [hp] using State.TellsAs.refl s
  | true =>
    cases hc : (s.bay b).slot.code with
    | none => simpa [hp, hc] using s.modifyBay_tells b _
    | some c => simpa [hp, hc] using (s.modifyBay_tells b _).enqueue _ _

/-- The removal of a bay's queued entries tells nothing. -/
theorem State.dropEntries_sweepWork (t : State) (b : BayId) : (t.unqueue b).SweepWork (busOf b) (t.dropEntries b) := by
  unfold State.dropEntries State.unqueue
  dsimp only
  split
  · exact State.sweepLeave_sweepWork _ b
  · exact .refl _ _

theorem State.dropEntries_tells (t : State) (b : BayId) : (t.dropEntries b).TellsAs t :=
  .of_shell (t.dropEntries_sweepWork b).events (t.dropEntries_sweepWork b).shell

/-- The records of a departure (R7). -/
theorem State.depart_tells (s : State) (b : BayId) (dest : LinkState) (cause : LinkCause) :
    (s.depart b dest cause).TellsAs (s.enqueueAll (.bay b) (departureDetails (s.bay b).slot dest cause)) := by
  have hslot : ((s.modifyBay b fun x => x.leaveBound dest).bay b).slot = (s.bay b).slot := by
    rw [State.modifyBay_bay_self]; rfl
  have hended : (s.departed b dest cause).TellsAs
      (s.enqueueAll (.bay b) ((s.bay b).slot.endDetails (departureResult cause))) := by
    have hcomplete := (s.modifyBay b fun x => x.leaveBound dest).completeCommand_tells b (departureResult cause)
    rw [hslot] at hcomplete
    exact hcomplete.trans ((s.modifyBay_tells b _).enqueueAll _ _)
  rw [State.depart_eq, departureDetails_eq, State.enqueueAll_append]
  exact (((State.dropEntries_tells _ b).trans hended).enqueue _ _).enqueue _ _

/-- The bay after a departure (R7). -/
theorem State.depart_departed (s : State) (b : BayId) (dest : LinkState) (cause : LinkCause) :
    Bay.Departed (s.bay b) ((s.depart b dest cause).bay b) dest cause := by
  have hleft : (s.modifyBay b fun x => x.leaveBound dest).bay b = (s.bay b).leaveBound dest :=
    State.modifyBay_bay_self s b _
  rw [State.depart_eq, State.enqueue_bay, State.enqueue_bay, State.dropEntries_bay_ne, State.departed]
  unfold Bay.Departed
  cases hp : (s.bay b).slot.inProgress with
  | true => rw [State.completeCommand_bay _ b _ (by rw [hleft]; exact hp), hleft]; rfl
  | false => rw [State.completeCommand_idle _ b _ (by rw [hleft]; exact hp), hleft]; rfl

/-! ## Hunts (R127, R130) -/

theorem State.huntLeave_engine (s : State) (b : BayId) :
    (s.huntLeave b).engine (busOf b) =
      { s.engine (busOf b) with hunt := (s.engine (busOf b)).hunt.map fun h => h.without b } :=
  State.modifyEngine_engine_self s _ _

theorem Engine.with_hunt_of_eq {g : Engine} {h : Option Hunt} (hg : g.hunt = h) : { g with hunt := h } = g := by
  subst hg; rfl

theorem State.endHunt_engine (s : State) (n : BusId) :
    (s.endHunt n).engine n = { s.engine n with hunt := huntLeft (s.engine n).hunt } := by
  unfold State.endHunt
  split
  · next h => rw [h, huntLeft_none, Engine.with_hunt_of_eq h]
  · next g h =>
    rw [h, huntLeft_some]
    split
    · rw [State.modifyEngine_engine_self]; rfl
    · rw [Engine.with_hunt_of_eq h]

theorem State.endHunt_tells (s : State) (n : BusId) : (s.endHunt n).TellsAs (s.tellHunt n (s.engine n).hunt) := by
  unfold State.endHunt
  cases h : (s.engine n).hunt with
  | none => exact .refl s
  | some g =>
    rw [State.tellHunt_some]
    dsimp only
    split
    · exact ⟨rfl, rfl, rfl⟩
    · exact .refl s

/-! ## The entries of a released bay (R8, R112) -/

/-- The bus state once the transaction of bay `b` is ignored (R8). -/
theorem State.ignoreCurrent_engine (s : State) (b : BayId) :
    (s.ignoreCurrent b).engine (busOf b) = { s.engine (busOf b) with
      bus := if (s.engine (busOf b)).bus.current.map (fun tx => tx.entry.bay) = some b
        then (s.engine (busOf b)).bus.ignore else (s.engine (busOf b)).bus } := by
  unfold State.ignoreCurrent
  cases hc : (s.engine (busOf b)).bus.current with
  | none => rfl
  | some tx =>
    dsimp only [Option.map_some, Option.some.injEq]
    split
    · next h => rw [State.modifyEngine_engine_self, if_pos (congrArg some h)]
    · next h => rw [if_neg fun h' => h (Option.some.inj h')]

theorem State.dropEntries_not_queued (t : State) (b : BayId) (hl : (t.bay b).link ≠ .bound) :
    ∀ q ∈ ((t.dropEntries b).engine (busOf b)).queue, q.bay ≠ b := by
  intro q hq hqb
  rcases ((t.unqueue_keeps_dropEntries b).queue (busOf b)).known q hq with ⟨d, hd, hb, _, _⟩ | ⟨_, hb, _, _⟩
  · rw [State.unqueue, State.modifyEngine_engine_self] at hd
    have hne : d.bay ≠ b := by simpa using (List.mem_filter.mp hd).2
    exact hne (hb.symm.trans hqb)
  · exact hl (hqb ▸ hb)

/-- The bay's part of a sweep ends with its queued sweep read (R112). -/
theorem State.dropEntries_swept (t : State) (b : BayId) :
    if (t.engine (busOf b)).queue.any (fun q => q.bay = b && q.waiters.sweep)
    then t.SweepLeft (t.dropEntries b) (busOf b) b
    else ((t.dropEntries b).engine (busOf b)).sweep = (t.engine (busOf b)).sweep := by
  have hsweep : ((t.unqueue b).engine (busOf b)).sweep = (t.engine (busOf b)).sweep := by
    rw [State.unqueue, State.modifyEngine_engine_self]
  split
  · next h =>
    have hdrop : t.dropEntries b = (t.unqueue b).sweepLeave b := if_pos h
    rw [hdrop]
    exact (State.sweepLeave_swept _ b).of_sweep hsweep.symm
  · next h =>
    have hdrop : t.dropEntries b = t.unqueue b := if_neg h
    rw [hdrop, hsweep]

/-- What a release leaves of the entries of bay `b` (R8, R112). -/
def State.EntriesGone (s t : State) (b : BayId) : Prop :=
  (∀ q ∈ (t.engine (busOf b)).queue, q.bay ≠ b) ∧
  (t.engine (busOf b)).bus = (if (s.engine (busOf b)).bus.current.map (fun tx => tx.entry.bay) = some b
    then (s.engine (busOf b)).bus.ignore else (s.engine (busOf b)).bus) ∧
  (if (s.engine (busOf b)).queue.any (fun q => q.bay = b && q.waiters.sweep) then s.SweepLeft t (busOf b) b
    else (t.engine (busOf b)).sweep = (s.engine (busOf b)).sweep)

/-- A release drops the entries of the bay from the engine whose transaction it ignores; `t` is told later records
and may have lost its hunt. -/
theorem State.EntriesGone.of_dropEntries {s u t : State} {b : BayId} (hl : (u.bay b).link ≠ .bound)
    (hu : u.engine (busOf b) = (s.ignoreCurrent b).engine (busOf b)) (hbay : ∀ c, t.bay c = (u.dropEntries b).bay c)
    (halerts : t.alerts = (u.dropEntries b).alerts)
    (hengine : ∃ h, t.engine (busOf b) = { (u.dropEntries b).engine (busOf b) with hunt := h }) :
    s.EntriesGone t b := by
  obtain ⟨h, ht⟩ := hengine
  rw [State.ignoreCurrent_engine] at hu
  have hswept := u.dropEntries_swept b
  have hsweep : (u.engine (busOf b)).sweep = (s.engine (busOf b)).sweep := by rw [hu]
  have hqueue : (u.engine (busOf b)).queue = (s.engine (busOf b)).queue := by rw [hu]
  rw [hqueue] at hswept
  refine ⟨?_, ?_, ?_⟩
  · rw [ht]
    exact u.dropEntries_not_queued b hl
  · have hbus : ((u.unqueue b).engine (busOf b)).bus = (u.engine (busOf b)).bus := by
      rw [State.unqueue, State.modifyEngine_engine_self]
    rw [ht]
    dsimp only
    rw [(u.dropEntries_sweepWork b).bus, hbus, hu]
  · split at hswept
    · next hany =>
      rw [if_pos hany]
      exact (hswept.of_sweep hsweep.symm).of_after halerts (fun c => by rw [hbay]) (by rw [ht]; rfl) (by rw [ht])
        (by rw [ht])
    · next hany =>
      rw [if_neg hany, ht, ← hsweep]
      exact hswept

/-! ## The release (R8) -/

theorem State.ignoreCurrent_tells (s : State) (b : BayId) : (s.ignoreCurrent b).TellsAs s := by
  refine .of_shell ?_ (s.ignoreCurrent_shell b)
  unfold State.ignoreCurrent
  split
  · rfl
  · split <;> rfl

theorem State.release_of_bound {s : State} {b : BayId} (h : (s.bay b).link = .bound) :
    s.release b = (s.ignoreCurrent b).depart b .absent .released := by
  unfold State.release
  dsimp only
  rw [h]

/-- A bay in PROBING or SETUP with no link left, and its transaction ignored (R8). -/
def State.unlinked (s : State) (b : BayId) : State :=
  (s.ignoreCurrent b).modifyBay b fun x => { x with link := .absent, chain := none }

theorem State.release_of_discovery {s : State} {b : BayId}
    (h : (s.bay b).link = .probing ∨ (s.bay b).link = .setup) :
    s.release b = ((((s.unlinked b).dropEntries b).enqueue (.bay b) (.link .absent .released)).huntLeave b).endHunt
      (busOf b) := by
  unfold State.release
  dsimp only
  rcases h with h | h <;> rw [h] <;> rfl

theorem State.release_of_lost {s : State} {b : BayId} (h : (s.bay b).link = .lost) :
    s.release b = ((s.ignoreCurrent b).modifyBay b fun x => { x with link := .absent }).enqueue (.bay b)
      (.link .absent .released) := by
  unfold State.release
  dsimp only
  rw [h]

theorem State.release_of_absent {s : State} {b : BayId} (h : (s.bay b).link = .absent) :
    s.release b = s.ignoreCurrent b := by
  unfold State.release
  dsimp only
  rw [h]

/-- AUTO_ON and AUTO_IND start nothing on a bay without link. -/
theorem State.actOnChanges_unlinked {s : State} {b : BayId} (hl : (s.bay b).link ≠ .bound)
    (hp : (s.bay b).power = .unknown) (old new : BayConfig) : s.actOnChanges b old new = s := by
  have hstart : s.autoStart b = s := State.autoStart_rests fun h => by rw [hp] at h; cases h
  unfold State.actOnChanges
  simp only [hstart, ite_self]
  rw [State.correctIndicator_rests fun h => absurd h hl, ite_self]

end Sys2Proof.Machine

/-! # What clearing MANAGED does -/

namespace Sys2Proof.Machine

/-! ## The release by link state (R8) -/

/-- A BOUND bay departs with cause RELEASED. -/
theorem State.release_bound (s : State) (b : BayId) (hl : (s.bay b).link = .bound) :
    Bay.Departed (s.bay b) ((s.release b).bay b) .absent .released ∧
    (s.release b).TellsAs (s.enqueueAll (.bay b) (departureDetails (s.bay b).slot .absent .released)) ∧
    s.EntriesGone (s.release b) b := by
  have hdep := (s.ignoreCurrent b).depart_departed b .absent .released
  have htold := (s.ignoreCurrent b).depart_tells b .absent .released
  rw [State.ignoreCurrent_bay_ne] at hdep htold
  rw [State.release_of_bound hl]
  refine ⟨hdep, htold.trans ((s.ignoreCurrent_tells b).enqueueAll _ _), ?_⟩
  have hlink : (((s.ignoreCurrent b).departed b .absent .released).bay b).link ≠ .bound := by
    rw [State.departed_link]
    exact LinkState.noConfusion
  have hgone := State.EntriesGone.of_dropEntries (t := (s.ignoreCurrent b).depart b .absent .released) hlink
    (State.departed_engine _ b _ _ _)
  rw [State.depart_eq] at hgone ⊢
  generalize ((s.ignoreCurrent b).departed b .absent .released).dropEntries b = d at hgone
  exact hgone (fun _ => rfl) rfl ⟨(d.engine (busOf b)).hunt, rfl⟩

theorem State.unlinked_bay (s : State) (b : BayId) :
    (s.unlinked b).bay b = { s.bay b with link := .absent, chain := none } := by
  rw [State.unlinked, State.modifyBay_bay_self, State.ignoreCurrent_bay_ne]

theorem State.unlinked_engine (s : State) (b : BayId) :
    (s.unlinked b).engine (busOf b) = (s.ignoreCurrent b).engine (busOf b) := rfl

theorem State.unlinked_dropEntries_hunt (s : State) (b : BayId) :
    (((s.unlinked b).dropEntries b).engine (busOf b)).hunt = (s.engine (busOf b)).hunt := by
  rw [((s.unlinked b).dropEntries_sweepWork b).hunt, State.unqueue, State.modifyEngine_engine_self,
    State.unlinked_engine, State.ignoreCurrent_engine]

theorem State.unlinked_dropEntries_tells (s : State) (b : BayId) : ((s.unlinked b).dropEntries b).TellsAs s :=
  ((State.dropEntries_tells _ b).trans (State.modifyBay_tells _ b _)).trans (s.ignoreCurrent_tells b)

theorem State.huntLeave_tells (s : State) (b : BayId) : (s.huntLeave b).TellsAs s := ⟨rfl, rfl, rfl⟩

/-- A bay in PROBING or SETUP loses its link, and its bus's hunt loses the bay. -/
theorem State.release_discovery (s : State) (b : BayId) (hl : (s.bay b).link = .probing ∨ (s.bay b).link = .setup) :
    (s.release b).bay b = { s.bay b with link := .absent, chain := none } ∧
    ((s.release b).engine (busOf b)).hunt = huntLeft ((s.engine (busOf b)).hunt.map fun h => h.without b) ∧
    (s.release b).TellsAs ((s.enqueue (.bay b) (.link .absent .released)).tellHunt (busOf b)
      ((s.engine (busOf b)).hunt.map fun h => h.without b)) ∧
    s.EntriesGone (s.release b) b := by
  have hdrop : ((s.unlinked b).dropEntries b).TellsAs s := s.unlinked_dropEntries_tells b
  have hhunt := s.unlinked_dropEntries_hunt b
  have hlink : ((s.unlinked b).bay b).link ≠ .bound := by rw [State.unlinked_bay]; nofun
  have hswept := State.EntriesGone.of_dropEntries (t := s.release b) hlink (s.unlinked_engine b)
  rw [State.release_of_discovery hl] at hswept ⊢
  have hbay := (s.unlinked b).dropEntries_bay_ne b b
  rw [State.unlinked_bay] at hbay
  generalize (s.unlinked b).dropEntries b = d at *
  have hleave : ((d.enqueue (.bay b) (.link .absent .released)).huntLeave b).engine (busOf b) =
      { d.engine (busOf b) with hunt := (s.engine (busOf b)).hunt.map fun h => h.without b } := by
    rw [State.huntLeave_engine, State.enqueue_engine, hhunt]
  refine ⟨?_, ?_, ?_, hswept (fun c => ?_) ?_ ?_⟩
  · rw [State.endHunt_bay_ne, State.huntLeave_bay_ne, State.enqueue_bay, hbay]
  · rw [State.endHunt_engine, hleave]
  · refine (State.endHunt_tells _ _).trans ?_
    rw [hleave]
    have hleft : ((d.enqueue (.bay b) (.link .absent .released)).huntLeave b).TellsAs
        (s.enqueue (.bay b) (.link .absent .released)) :=
      (State.huntLeave_tells _ b).trans (hdrop.enqueue _ _)
    exact hleft.tellHunt _ _
  · rw [State.endHunt_bay_ne, State.huntLeave_bay_ne, State.enqueue_bay]
  · have hshell : (((d.enqueue (.bay b) (.link .absent .released)).huntLeave b).endHunt (busOf b)).shell = d.shell := by
      rw [State.endHunt_shell, State.huntLeave_shell, State.enqueue_shell]
    exact congrArg Shell.alerts hshell
  · exact ⟨_, (State.endHunt_engine _ _).trans (by rw [hleave])⟩

/-- A LOST bay becomes ABSENT. -/
theorem State.release_lost (s : State) (b : BayId) (hl : (s.bay b).link = .lost) :
    (s.release b).bay b = { s.bay b with link := .absent } ∧
    (s.release b).TellsAs (s.enqueue (.bay b) (.link .absent .released)) := by
  rw [State.release_of_lost hl]
  refine ⟨?_, ((State.modifyBay_tells _ b _).trans (s.ignoreCurrent_tells b)).enqueue _ _⟩
  rw [State.enqueue_bay, State.modifyBay_bay_self, State.ignoreCurrent_bay_ne]

/-- An ABSENT bay stays ABSENT, and nothing is told. -/
theorem State.release_absent (s : State) (b : BayId) (hl : (s.bay b).link = .absent) :
    (s.release b).bay b = s.bay b ∧ (s.release b).TellsAs s := by
  rw [State.release_of_absent hl]
  exact ⟨State.ignoreCurrent_bay_ne s b b, s.ignoreCurrent_tells b⟩

/-- What is asked of the entries reads of the state before the release the engine alone, and nothing of the lines. -/
theorem State.EntriesGone.of_engine {s s' r t : State} {b : BayId} (h : s'.EntriesGone t b)
    (he : s'.engine (busOf b) = s.engine (busOf b)) : s.EntriesGone (r.noticeAppends t) b := by
  obtain ⟨hqueue, hbus, hsweep⟩ := h
  rw [he] at hbus hsweep
  refine ⟨hqueue, hbus, ?_⟩
  split at hsweep
  · next hany =>
    rw [if_pos hany]
    exact (hsweep.of_sweep (by rw [he])).of_after rfl (fun _ => rfl) rfl rfl rfl
  · next hany =>
    rw [if_neg hany]
    exact hsweep

/-! ## The word (R4, R8; log entry 11) -/

/-- The answer to a word that releases bay `b`: what the release leaves, since a bay without link is neither started
nor corrected. -/
theorem exec_bayConfigurationWrite_release {b : BayId} {w : Word} {s s' : State}
    (hs' : s' = (s.afterWord (Reg.bay b .config).addr).configured b w)
    (ht : s.takesWord (Reg.bay b .config).addr = true) (hd : (BayConfig.ofWord w).debounce ≠ 0)
    (hm : (s.bay b).config.managed = true) (hm' : (BayConfig.ofWord w).managed = false)
    (hr : (s.bay b).releaseRefused = false) (hl : ((s'.release b).bay b).link = .absent)
    (hp : ((s'.release b).bay b).power = .unknown) :
    exec (.bayConfigurationWrite b w) s = .next (s.noticeAppends (s'.release b)) := by
  rw [exec_bayConfigurationWrite ht,
    State.writeBayConfig_released (s := s.afterWord (Reg.bay b .config).addr) hd hm hm' hr, ← hs',
    State.actOnChanges_unlinked (by rw [hl]; nofun) hp]

/-- Settles O17: the release of R8, by link state, of the bay with its new fields. -/
theorem releaseFromManagement : Obligations.ReleaseFromManagement := by
  intro b w s ht hd hm hm' hr hok n entriesGone
  obtain ⟨s', hs'⟩ : ∃ s', s' = (s.afterWord (Reg.bay b .config).addr).configured b w := ⟨_, rfl⟩
  have hexec := exec_bayConfigurationWrite_release hs' ht hd hm hm' hr
  have hbay : s'.bay b = { s.bay b with config := BayConfig.ofWord w } := by rw [hs', State.configured_bay]; rfl
  have hlink : (s'.bay b).link = (s.bay b).link := by rw [hbay]
  have htells : s'.TellsAs s := by rw [hs']; exact ⟨rfl, rfl, rfl⟩
  have hengine : s'.engine (busOf b) = s.engine (busOf b) := by rw [hs']; rfl
  have hother : ∀ c, c ≠ b → (s'.release b).bay c = s.bay c := fun c hc => by
    rw [State.release_bay_ne s' b c hc, hs']
    exact State.modifyBay_bay_ne _ b c _ hc
  have hunknown : (s.bay b).link ≠ .bound → (s.bay b).power = .unknown := hok.1.mpr
  refine ⟨fun hl => ?_, fun hl => ?_, fun hl => ?_, fun hl => ?_⟩
  · obtain ⟨hdep, htold, hgone⟩ := s'.release_bound b (hlink.trans hl)
    rw [hbay] at hdep htold
    exact ⟨_, hexec (by rw [hdep]) (by rw [hdep]), hdep, (htold.trans (htells.enqueueAll _ _)).events,
      hgone.of_engine hengine, hother⟩
  · obtain ⟨hb, hhunt, htold, hgone⟩ := s'.release_discovery b (by rwa [hlink])
    rw [hbay] at hb
    rw [hengine] at hhunt htold
    have hp := hunknown (by rcases hl with hl | hl <;> rw [hl] <;> nofun)
    exact ⟨_, hexec (by rw [hb]) (by rw [hb]; exact hp), hb, hhunt,
      (htold.trans ((htells.enqueue _ _).tellHunt _ _)).events, hgone.of_engine hengine, hother⟩
  · obtain ⟨hb, htold⟩ := s'.release_lost b (hlink.trans hl)
    rw [hbay] at hb
    have hp := hunknown (by rw [hl]; nofun)
    exact ⟨_, hexec (by rw [hb]) (by rw [hb]; exact hp), hb, (htold.trans (htells.enqueue _ _)).events, hother⟩
  · obtain ⟨hb, htold⟩ := s'.release_absent b (hlink.trans hl)
    rw [hbay] at hb
    have hp := hunknown (by rw [hl]; nofun)
    exact ⟨_, hexec (by rw [hb]; exact hl) (by rw [hb]; exact hp), hb, (htold.trans htells).events, hother⟩

end Sys2Proof.Machine

/-! # The reset state, and the words of the Profile Table and the Class Map -/

namespace Sys2Proof.Machine

/-! ## The reset state (section 1.9) -/

@[simp] theorem State.reset_bay (b : BayId) : State.reset.bay b = Bay.reset := by
  simp [State.bay, State.reset]

@[simp] theorem State.reset_engine (n : BusId) : State.reset.engine n = Engine.reset := by
  simp [State.engine, State.reset]

theorem State.reset_linksConsistent : State.reset.LinksConsistent := by
  refine ⟨fun b => ?_, fun n e he => ?_, fun b _ => ?_⟩
  · rw [State.reset_bay]; exact ⟨by decide, by decide⟩
  · rw [State.reset_engine] at he; cases he
  · simp [Engine.reset, Engine.entries, Engine.currentEntry, BusState.current]

theorem State.reset_imagesLawful : State.reset.ImagesLawful := by
  refine ⟨fun b => ?_, fun n e he => ?_, fun n tx htx => ?_⟩
  · rw [State.reset_bay]; exact ⟨by decide, by rintro w ⟨⟩, by decide, by decide⟩
  · rw [State.reset_engine] at he; cases he
  · rw [State.reset_engine] at htx; cases htx

theorem Engine.reset_queueBounded (n : BusId) : Engine.reset.QueueBounded n := by
  simp [Engine.QueueBounded, Engine.reset]

theorem State.reset_timesPositive : State.reset.TimesPositive := by
  refine ⟨fun b => ?_, fun p => ?_⟩
  · rw [State.reset_bay]; decide
  · simp [State.reset, Profile.reset]

/-- Settles O60: every queue is empty, every line disabled, no route names a line, and the configuration holds its
reset values. -/
theorem invariantsAtReset : Obligations.InvariantsAtReset := by
  refine ⟨EventQueue.reset_wf, fun i j _ h => ?_, fun k => ?_, State.reset_timesPositive, fun n => ?_,
    State.reset_linksConsistent, State.reset_imagesLawful, fun n => ?_⟩
  · simp [State.reset] at h
  · simp [State.reset, Line.reset, Line.Settled]
  · rw [State.reset_engine]; trivial
  · rw [State.reset_engine]; exact Engine.reset_queueBounded n

/-! ## Class map words (R21) -/

/-- An entry of a class map word is undefined above DENY. -/
theorem classEntryOf_eq_none {v : BitVec 4} : classEntryOf v = none ↔ 4 < v.toNat := by
  have hdeny : v = 4 ↔ v.toNat = 4 := ⟨fun h => by rw [h]; rfl, fun h => BitVec.eq_of_toNat_eq h⟩
  unfold classEntryOf
  split
  · simp only [reduceCtorEq, false_iff]; omega
  · split
    · next h => simp only [reduceCtorEq, false_iff]; rw [hdeny] at h; omega
    · next h => simp only [true_iff]; rw [hdeny] at h; omega

/-- A defined entry reads back as it was written. -/
theorem classEntryCode_of_classEntryOf {v : BitVec 4} {e : Option ProfileId} (h : classEntryOf v = some e) :
    classEntryCode e = v.toNat := by
  unfold classEntryOf at h
  split at h
  · cases h; rfl
  · split at h
    · next hv => cases h; rw [hv]; rfl
    · cases h

theorem classMapOf_refused {w : Word} (h : ∃ c : Fin 8, 4 < (classField w c.val).toNat) : classMapOf w = none := by
  obtain ⟨c, hc⟩ := h
  have hc := classEntryOf_eq_none.mpr hc
  unfold classMapOf
  split
  · exfalso; fin_cases c <;> simp_all
  · rfl

theorem classMapOf_taken {w : Word} (h : ∀ c : Fin 8, (classField w c.val).toNat ≤ 4) :
    ∃ m, classMapOf w = some m ∧ ∀ c : Fin 8, classEntryCode m[c] = (classField w c.val).toNat := by
  have hdefined : ∀ c : Fin 8, ∃ e, classEntryOf (classField w c.val) = some e := fun c =>
    Option.ne_none_iff_exists'.mp fun hn => absurd (classEntryOf_eq_none.mp hn) (Nat.not_lt.mpr (h c))
  choose e he using hdefined
  have hmap : classMapOf w = some #v[e 0, e 1, e 2, e 3, e 4, e 5, e 6, e 7] := by
    unfold classMapOf
    rw [show classEntryOf (classField w 0) = some (e 0) from he 0,
      show classEntryOf (classField w 1) = some (e 1) from he 1,
      show classEntryOf (classField w 2) = some (e 2) from he 2,
      show classEntryOf (classField w 3) = some (e 3) from he 3,
      show classEntryOf (classField w 4) = some (e 4) from he 4,
      show classEntryOf (classField w 5) = some (e 5) from he 5,
      show classEntryOf (classField w 6) = some (e 6) from he 6,
      show classEntryOf (classField w 7) = some (e 7) from he 7]
  refine ⟨_, hmap, fun c => ?_⟩
  rw [← classEntryCode_of_classEntryOf (he c)]
  fin_cases c <;> rfl

/-! ## Profile words (R19) -/

theorem State.writeProfile_A (s : State) (p : ProfileId) (w : Word) :
    s.writeProfile p false w =
      if fieldOf w 1 10 = 0 ∨ fieldOf w 16 10 = 0 then s.setConfigRefused
      else { s with profiles := s.profiles.set p (s.profiles[p].withWordA w) } := by
  unfold State.writeProfile
  simp [Profile.withWordA]

/-- Settles O19. -/
theorem profileAndClassMapWords : Obligations.ProfileAndClassMapWords := by
  refine ⟨fun p w s ht => ?_, fun p w s ht =>
    State.wordEvent_quiet s _ (fun t => t.writeProfile p true w) ht rfl, fun w s ht =>
    ⟨fun h => ?_, fun h => ?_⟩⟩
  · have hevents : ((s.afterWord (Reg.profileA p).addr).writeProfile p false w).events = s.events := by
      rw [State.writeProfile_A]; split <;> rfl
    refine (State.wordEvent_quiet s _ (fun t => t.writeProfile p false w) ht hevents).trans ?_
    rw [State.writeProfile_A]
    rfl
  · have hres : (s.afterWord Reg.classMap.addr).writeClassMap w = (s.afterWord Reg.classMap.addr).setConfigRefused := by
      rw [State.writeClassMap, classMapOf_refused h]
    exact (State.wordEvent_quiet s _ (fun t => t.writeClassMap w) ht (by rw [hres]; rfl)).trans (by rw [hres])
  · obtain ⟨m, hm, hcode⟩ := classMapOf_taken h
    have hres : (s.afterWord Reg.classMap.addr).writeClassMap w =
        { s.afterWord Reg.classMap.addr with classMap := m } := by
      rw [State.writeClassMap, hm]
    exact ⟨m, (State.wordEvent_quiet s _ (fun t => t.writeClassMap w) ht (by rw [hres]; rfl)).trans
      (by rw [hres]), hcode⟩

end Sys2Proof.Machine

/-! # The shared steps of the Sequencer and the Command Unit

Each step of one bay is given by the bay it leaves, by the records it tells (`TellsAs`), and by what it does to the
bay's bus. -/

namespace Sys2Proof.Machine

theorem State.TellsAs.symm {s t : State} (h : s.TellsAs t) : t.TellsAs s :=
  ⟨h.events.symm, h.routing.symm, h.millis.symm⟩

/-! ## Updates of one bay -/

theorem State.modifyBay_modifyBay (s : State) (b : BayId) (f g : Bay → Bay) :
    (s.modifyBay b f).modifyBay b g = s.modifyBay b fun x => g (f x) := by
  simp [State.modifyBay]

theorem State.modifyBay_congr {s : State} {b : BayId} {f g : Bay → Bay} (h : f (s.bay b) = g (s.bay b)) :
    s.modifyBay b f = s.modifyBay b g := by
  unfold State.modifyBay
  rw [show f s.bays[b] = g s.bays[b] from h]

theorem State.modifyBay_of_eq {s : State} {b : BayId} {f : Bay → Bay} (h : f (s.bay b) = s.bay b) :
    s.modifyBay b f = s := by
  unfold State.modifyBay
  rw [show f s.bays[b] = s.bays[b] from h]
  simp

theorem State.enqueue_modifyBay (s : State) (b : BayId) (f : Bay → Bay) (src : Source) (d : Detail) :
    (s.enqueue src d).modifyBay b f = (s.modifyBay b f).enqueue src d := rfl

@[simp] theorem State.enqueueAll_bays (s : State) (src : Source) (ds : List Detail) :
    (s.enqueueAll src ds).bays = s.bays := by
  induction ds generalizing s with
  | nil => rfl
  | cons d ds ih => exact ih (s.enqueue src d)

@[simp] theorem State.enqueueAll_engines (s : State) (src : Source) (ds : List Detail) :
    (s.enqueueAll src ds).engines = s.engines := by
  induction ds generalizing s with
  | nil => rfl
  | cons d ds ih => exact ih (s.enqueue src d)

@[simp] theorem State.enqueueAll_shell (s : State) (src : Source) (ds : List Detail) :
    (s.enqueueAll src ds).shell = s.shell :=
  State.foldl_shell _ (fun s d => s.enqueue_shell src d) ds s

@[simp] theorem State.enqueueAll_bay (s : State) (src : Source) (ds : List Detail) (c : BayId) :
    (s.enqueueAll src ds).bay c = s.bay c := by
  unfold State.bay
  rw [State.enqueueAll_bays]

@[simp] theorem State.enqueueAll_engine (s : State) (src : Source) (ds : List Detail) (m : BusId) :
    (s.enqueueAll src ds).engine m = s.engine m := by
  unfold State.engine
  rw [State.enqueueAll_engines]

/-! ## Target updates -/

theorem State.updateTarget_tells (s : State) (b : BayId) (f : Image → Image) (u : Bool) :
    (s.updateTarget b f u).TellsAs s :=
  .of_shell (s.updateTarget_events b f u) (s.updateTarget_shell b f u)

@[simp] theorem State.updateTarget_lines (s : State) (b : BayId) (f : Image → Image) (u : Bool) :
    (s.updateTarget b f u).lines = s.lines := by
  unfold State.updateTarget State.requestWrite
  (repeat' split) <;> rfl

/-- An update that changes a field makes the next generation (R11). -/
theorem State.updateTarget_bay_of_ne {s : State} {b : BayId} {f : Image → Image}
    (h : f (s.bay b).target ≠ (s.bay b).target) (u : Bool) :
    (s.updateTarget b f u).bay b =
      { s.bay b with target := f (s.bay b).target, targetGen := (s.bay b).targetGen + 1 } := by
  rw [State.updateTarget_bay, if_neg h]

/-! ## The command slot (R50, R58, R59) -/

theorem Slot.runs_iff {sl : Slot} {c : BayCommand} :
    sl.runs c = true ↔ sl.inProgress = true ∧ sl.code = some c := by
  simp [Slot.runs]

theorem Slot.runs_of_idle {sl : Slot} (h : sl.inProgress = false) (c : BayCommand) : sl.runs c = false := by
  simp [Slot.runs, h]

/-- A slot runs one command at a time. -/
theorem Slot.runs_unique {sl : Slot} {c k : BayCommand} (h : sl.runs c = true) (hne : c ≠ k) : sl.runs k = false := by
  obtain ⟨-, hc⟩ := Slot.runs_iff.mp h
  simp [Slot.runs, hc, hne]

@[simp] theorem Slot.holding_runs (c k : BayCommand) (tag : Byte) (g : Option Half) :
    (Slot.holding c tag g).runs k = decide (c = k) := by
  simp [Slot.runs, Slot.holding]

@[simp] theorem Slot.ended_runs (c k : BayCommand) (tag : Byte) (r : CommandResult) :
    (Slot.ended c tag r).runs k = false := rfl

@[simp] theorem Slot.ended_inProgress (c : BayCommand) (tag : Byte) (r : CommandResult) :
    (Slot.ended c tag r).inProgress = false := rfl

@[simp] theorem Slot.holding_tag (c : BayCommand) (tag : Byte) (g : Option Half) :
    (Slot.holding c tag g).tag = tag := rfl

/-- The completion of a command in progress: the slot has ended, and the COMMAND record stands (R59). -/
theorem State.completeCommand_of_runs {s : State} {b : BayId} {c : BayCommand} (h : (s.bay b).slot.runs c = true)
    (r : CommandResult) :
    s.completeCommand b r =
      (s.modifyBay b fun x => { x with slot := Slot.ended c x.slot.tag r }).enqueue (.bay b)
        (.command c (s.bay b).slot.tag r) := by
  obtain ⟨hp, hc⟩ := Slot.runs_iff.mp h
  unfold State.completeCommand
  dsimp only
  rw [if_pos hp, hc]
  rfl

@[simp] theorem State.completeCommand_engines (s : State) (b : BayId) (r : CommandResult) :
    (s.completeCommand b r).engines = s.engines := by
  unfold State.completeCommand
  dsimp only
  (repeat' split) <;> rfl

/-- Whatever command a completion ends, it changes the slot alone (R59). -/
theorem State.completeCommand_slot (s : State) (b : BayId) (r : CommandResult) :
    ∃ sl, (s.completeCommand b r).bay b = { s.bay b with slot := sl } := by
  cases h : (s.bay b).slot.inProgress with
  | true => exact ⟨_, s.completeCommand_bay b r h⟩
  | false => exact ⟨_, by rw [s.completeCommand_idle b r h]⟩

/-! ## The answer of an event -/

/-- The answer `t` of an event agrees with the state `u` that its rules give; the Router's lines may differ (R165). -/
structure State.AnswersAs (t u : State) : Prop where
  bay : ∀ c, t.bay c = u.bay c
  engine : ∀ m, t.engine m = u.engine m
  engines : t.engines = u.engines
  tells : t.TellsAs u
  shell : t.shell = u.shell

theorem State.noticeAppends_answers (s u : State) : (s.noticeAppends u).AnswersAs u :=
  ⟨fun _ => rfl, fun _ => rfl, rfl, ⟨rfl, rfl, rfl⟩, rfl⟩

theorem State.event_answers {s : State} (h : s.resetLow = false) (u : State) :
    ∃ t, s.event u = .next t ∧ t.AnswersAs u :=
  ⟨_, State.event_taken s u h, s.noticeAppends_answers u⟩

theorem State.AnswersAs.sameElsewhere {s t u : State} {b : BayId} (h : t.AnswersAs u) (hu : s.SameElsewhere u b) :
    s.SameElsewhere t b :=
  ⟨fun c hc => (h.bay c).trans (hu.1 c hc), fun m hm => (h.engine m).trans (hu.2 m hm)⟩

theorem State.AnswersAs.coolEntered {s t u : State} {b : BayId} {cause : Option StateCause} (h : t.AnswersAs u)
    (hu : s.CoolEntered u b cause) : s.CoolEntered t b cause := by
  unfold State.CoolEntered at hu ⊢
  rw [h.bay, h.tells.events]
  exact hu

/-! ## Bay command words (R51, R58) -/

theorem exec_bayCommand {s : State} {b : BayId} (ht : s.takesWord (Reg.bay b .command).addr = true) (c : BayCommand)
    (tag : Byte) (args : CommandArgs) :
    exec (bayCommandOf c b tag args) s =
      .next (s.noticeAppends ((s.afterWord (Reg.bay b .command).addr).takeCommand b c tag args)) := by
  have hword : exec (bayCommandOf c b tag args) s =
      s.wordEvent (Reg.bay b .command).addr fun t => t.takeCommand b c tag args := by cases c <;> rfl
  exact hword.trans (State.wordEvent_taken s _ _ ht)

theorem exec_bayCommand_answers {s : State} {b : BayId} (ht : s.takesWord (Reg.bay b .command).addr = true)
    (c : BayCommand) (tag : Byte) (args : CommandArgs) :
    ∃ t, exec (bayCommandOf c b tag args) s = .next t ∧
      t.AnswersAs ((s.afterWord (Reg.bay b .command).addr).takeCommand b c tag args) :=
  ⟨_, exec_bayCommand ht c tag args, s.noticeAppends_answers _⟩

/-- A command word that tells nothing answers the state that the Command Unit gives. -/
theorem exec_bayCommand_quiet {s t : State} {b : BayId} (ht : s.takesWord (Reg.bay b .command).addr = true)
    (c : BayCommand) (tag : Byte) (args : CommandArgs)
    (h : (s.afterWord (Reg.bay b .command).addr).takeCommand b c tag args = t) (he : t.events = s.events) :
    exec (bayCommandOf c b tag args) s = .next t := by
  rw [exec_bayCommand ht, h, State.noticeAppends_of_events s t he]

theorem BayCommand.argsWellFormed_noArgs (c : BayCommand) : c.argsWellFormed noArgs = true := by
  cases c <;> rfl

theorem State.commandCheck_noArgs {s : State} {b : BayId} {c : BayCommand} (hl : (s.bay b).link = .bound)
    (hb : (s.bay b).slot.blocks c = false) : s.commandCheck b c noArgs = s.specificCheck b c := by
  unfold State.commandCheck
  simp [BayCommand.argsWellFormed_noArgs, hl, hb]

theorem State.takeSlot_eq (s : State) (b : BayId) (c : BayCommand) (tag : Byte) :
    s.takeSlot b c tag = s.modifyBay b fun x => { x with slot := Slot.holding c tag none } := rfl

/-- A command without arguments that finds the slot free and passes its own check is accepted (R51, R58). -/
theorem State.takeCommand_idle {s : State} {b : BayId} {c : BayCommand} (hl : (s.bay b).link = .bound)
    (hi : (s.bay b).slot.inProgress = false) (hc : s.specificCheck b c = none) (tag : Byte) :
    s.takeCommand b c tag noArgs = (s.takeSlot b c tag).firstEffect b c noArgs false := by
  have hcheck : s.commandCheck b c noArgs = none := by
    rw [State.commandCheck_noArgs hl (by simp [Slot.blocks, hi]), hc]
  unfold State.takeCommand State.acceptCommand State.overtakePowerOn
  rw [hcheck]
  simp [Slot.runs_of_idle hi]

/-! ## The begin of a power-up (R24) -/

theorem State.beginPowerUp_tells (s : State) (b : BayId) : (s.beginPowerUp b).TellsAs s :=
  .of_shell (s.beginPowerUp_events b) (s.beginPowerUp_shell b)

/-- The generation of a power-up's target: the next one where the ramp update changes a field (R11, R24). -/
theorem State.beginPowerUp_targetGen (s : State) (b : BayId) :
    ((s.beginPowerUp b).bay b).targetGen =
      if rampUpdate (s.bay b).config (s.bay b).target = (s.bay b).target then (s.bay b).targetGen
      else (s.bay b).targetGen + 1 := by
  have hbegun : ((s.rampBegun b).bay b).targetGen =
      if rampUpdate (s.bay b).config (s.bay b).target = (s.bay b).target then (s.bay b).targetGen
      else (s.bay b).targetGen + 1 := by
    rw [State.rampBegun, State.modifyBay_bay_self, State.updateTarget_bay, State.modifyBay_bay_self]
  rw [State.beginPowerUp_eq]
  split
  · obtain ⟨tm, htm⟩ := (s.rampBegun b).rampWaitEnd_bay b
    rw [htm]
    exact hbegun
  · exact hbegun

/-- What a power-up reads of a bay: the conditions of R30 and R35 and the profile of R21 are alike in both states. -/
structure State.JudgesAs (s u : State) (b : BayId) : Prop where
  config : (s.bay b).config = (u.bay b).config
  accepted : (s.bay b).accepted = (u.bay b).accepted
  classMap : s.classMap = u.classMap

section JudgesAs

variable {s u : State} {b : BayId} (h : s.JudgesAs u b)
include h

theorem State.JudgesAs.classProfile : s.classProfile b = u.classProfile b := by
  unfold State.classProfile
  rw [h.accepted, h.classMap]

theorem State.JudgesAs.autoStartReady : s.autoStartReady b = u.autoStartReady b := by
  unfold State.autoStartReady
  dsimp only
  rw [h.config, h.accepted, h.classProfile]

theorem State.JudgesAs.heldReady : s.heldReady b = u.heldReady b := by
  unfold State.heldReady
  dsimp only
  rw [h.config, h.accepted, h.classProfile]

end JudgesAs

theorem State.JudgesAs.of_shell {s u : State} {b : BayId} (hc : (s.bay b).config = (u.bay b).config)
    (ha : (s.bay b).accepted = (u.bay b).accepted) (hs : s.shell = u.shell) : s.JudgesAs u b :=
  ⟨hc, ha, congrArg Shell.classMap hs⟩

theorem State.JudgesAs.trans {s t u : State} {b : BayId} (h : s.JudgesAs t b) (h' : t.JudgesAs u b) : s.JudgesAs u b :=
  ⟨h.config.trans h'.config, h.accepted.trans h'.accepted, h.classMap.trans h'.classMap⟩

theorem State.enqueue_judges (s : State) (b : BayId) (src : Source) (d : Detail) : (s.enqueue src d).JudgesAs s b :=
  ⟨rfl, rfl, rfl⟩

/-- A bay that may start by itself may begin a held power-up (R30, R35). -/
theorem State.heldReady_of_autoStartReady {s : State} {b : BayId} (h : s.autoStartReady b = true) :
    s.heldReady b = true := by
  obtain ⟨-, hp, hl, hc⟩ := (s.autoStartReady_iff b).mp h
  simp [State.heldReady, hp, hl, Option.isSome_iff_ne_none, hc]

theorem State.autoStartReady_of_not_heldReady {s : State} {b : BayId} (h : s.heldReady b = false) :
    s.autoStartReady b = false :=
  Bool.eq_false_iff.mpr fun ha => by rw [State.heldReady_of_autoStartReady ha] at h; cases h

end Sys2Proof.Machine

/-! # POWER_ON, cooldown and the entry into COOL -/

namespace Sys2Proof.Machine

/-! ## POWER_ON (R38, R55, R62) -/

theorem State.specificCheck_powerOn {s : State} {b : BayId}
    (hw : (s.bay b).power = .off ∨ (s.bay b).power = .cool ∨ (s.bay b).power = .drain)
    (hp : (s.bay b).accepted.present = true)
    (hl : (s.bay b).accepted.latchClosed = true ∨ (s.bay b).config.latchOff = false)
    (hc : s.classProfile b ≠ none) : s.specificCheck b .powerOn = none := by
  have hpower : (!((s.bay b).power = .off || (s.bay b).power = .cool || (s.bay b).power = .drain)) = false := by
    rcases hw with h | h | h <;> rw [h] <;> rfl
  have hlatch : (!((s.bay b).accepted.latchClosed || !(s.bay b).config.latchOff)) = false := by
    rcases hl with h | h <;> rw [h] <;> simp
  unfold State.specificCheck State.powerOnCheck
  simp only [hpower, hp, hlatch, Option.isNone_iff_eq_none, hc]
  rfl

/-- A bay command word leaves the other bays, the other bus and the shell to the port. -/
theorem State.takeCommand_frame (s : State) (b : BayId) (c : BayCommand) (tag : Byte) (args : CommandArgs) :
    let s' := s.afterWord (Reg.bay b .command).addr
    s.SameElsewhere (s'.takeCommand b c tag args) b ∧ (s'.takeCommand b c tag args).shell = s'.shell := by
  intro s'
  exact ⟨⟨fun k hk => s'.takeCommand_bay_ne b c tag args k hk, fun m hm => s'.takeCommand_engine_ne b c tag args m hm⟩,
    s'.takeCommand_shell b c tag args⟩

/-- Settles O30: a POWER_ON that stands in the slot begins a power-up, or sets the pending flag. -/
theorem powerOnAccepted : Obligations.PowerOnAccepted := by
  intro b tag s ht x hl hi hpres hlatch hclass
  obtain ⟨s', hs'⟩ : ∃ s', s' = s.afterWord (Reg.bay b .command).addr := ⟨_, rfl⟩
  have hx : s'.bay b = x := by rw [hs']; rfl
  obtain ⟨helse, hshell⟩ := s.takeCommand_frame b .powerOn tag noArgs
  rw [← hs'] at helse hshell
  have htaken : x.power = .off ∨ x.power = .cool ∨ x.power = .drain →
      s'.takeCommand b .powerOn tag noArgs = (s'.takeSlot b .powerOn tag).powerOnEffect b := fun hw =>
    State.takeCommand_idle (by rw [hx]; exact hl) (by rw [hx]; exact hi)
      (State.specificCheck_powerOn (by rwa [hx]) (by rwa [hx]) (by rwa [hx]) (by rw [hs']; exact hclass)) tag
  have hslot : (s'.takeSlot b .powerOn tag).bay b = { x with slot := Slot.holding .powerOn tag none } := by
    rw [State.takeSlot_eq, State.modifyBay_bay_self, hx]
  refine ⟨fun hoff => ?_, fun hw => ?_⟩
  · have hres : s'.takeCommand b .powerOn tag noArgs = (s'.takeSlot b .powerOn tag).beginPowerUp b := by
      rw [htaken (.inl hoff), State.powerOnEffect, hslot, hoff]
    obtain ⟨tm, g, hbay⟩ := (s'.takeSlot b .powerOn tag).beginPowerUp_bay b
    have hgen := (s'.takeSlot b .powerOn tag).beginPowerUp_targetGen b
    have hclass' : (s'.takeSlot b .powerOn tag).classProfile b = s.classProfile b :=
      State.JudgesAs.classProfile ⟨by rw [hslot], by rw [hslot], by rw [hs']; rfl⟩
    rw [hslot, hclass', rampUpdate_eq] at hbay
    rw [hslot] at hgen
    rw [hres] at helse hshell
    have hevents : ((s'.takeSlot b .powerOn tag).beginPowerUp b).events = s.events := by
      rw [State.beginPowerUp_events, hs']; rfl
    refine ⟨_, exec_bayCommand_quiet ht .powerOn tag noArgs (by rw [← hs', hres]) hevents,
      by rw [hbay], by rw [hbay], by rw [hbay],
      by rw [hbay], by rw [hbay], by rw [hbay], fun hne htakes => ?_, hevents, helse, by rw [hshell, hs']⟩
    have hne' : rampUpdate x.config x.target ≠ x.target := by
      rw [hbay] at hne
      rw [rampUpdate_eq]
      exact hne
    refine ⟨by rw [hgen, if_neg hne'], State.beginPowerUp_hasWrite ?_ ?_ ?_⟩
    · rw [hslot]; exact hne'
    · rw [hslot]; exact hl
    · rw [hs']; exact htakes
  · have hres : s'.takeCommand b .powerOn tag noArgs = s'.modifyBay b fun y =>
        { y with pendingUp := true, slot := Slot.holding .powerOn tag none } := by
      rw [htaken (.inr hw), State.powerOnEffect, hslot]
      rcases hw with h | h <;> rw [h] <;> exact State.modifyBay_modifyBay s' b _ _
    rw [← hs']
    exact exec_bayCommand_quiet ht .powerOn tag noArgs (by rw [← hs', hres]) (by rw [hs']; rfl)

end Sys2Proof.Machine

/-! # Cooldown and the entry into COOL (R34, R35) -/

namespace Sys2Proof.Machine

/-! ## The end of a cooldown (R35) -/

/-- The bay in OFF without a profile, and its STATE record told (R35). -/
def State.offTold (s : State) (b : BayId) : State :=
  (s.modifyBay b fun x => { x with power := .off, timer := none, profile := none }).enqueue (.bay b)
    (.state .off .auto)

theorem State.enterOff_eq (s : State) (b : BayId) : s.enterOff b = (s.offTold b).autoStart b := rfl

@[simp] theorem State.offTold_bay (s : State) (b : BayId) :
    (s.offTold b).bay b = { s.bay b with power := .off, timer := none, profile := none } := by
  rw [State.offTold, State.enqueue_bay, State.modifyBay_bay_self]

theorem State.offTold_tells (s : State) (b : BayId) :
    (s.offTold b).TellsAs (s.enqueue (.bay b) (.state .off .auto)) := (s.modifyBay_tells b _).enqueue _ _

theorem State.offTold_judges (s : State) (b : BayId) : (s.offTold b).JudgesAs s b :=
  ⟨by rw [State.offTold_bay], by rw [State.offTold_bay], rfl⟩

theorem State.enterOff_rests {s : State} {b : BayId} (h : s.autoStartReady b = false) :
    s.enterOff b = s.offTold b :=
  (s.enterOff_eq b).trans (State.autoStart_rests fun _ => (s.offTold_judges b).autoStartReady.trans h)

theorem State.enterOff_starts {s : State} {b : BayId} (h : s.autoStartReady b = true) :
    s.enterOff b = (s.offTold b).beginPowerUp b :=
  (s.enterOff_eq b).trans
    (State.autoStart_started (by rw [State.offTold_bay]) ((s.offTold_judges b).autoStartReady.trans h))

theorem State.abandonHeld_rests {s : State} {b : BayId} (h : (s.bay b).pendingUp = false ∨ s.heldReady b = true) :
    s.abandonHeld b = s :=
  if_neg (by rcases h with h | h <;> simp [h])

theorem State.abandonHeld_of_unready {s : State} {b : BayId} (hp : (s.bay b).pendingUp = true)
    (hr : s.heldReady b = false) :
    s.abandonHeld b = (s.modifyBay b fun x => { x with pendingUp := false }).completeCommand b .aborted :=
  if_pos (by simp [hp, hr])

/-- Abandoning a held power-up changes the pending flag and the slot alone (R35). -/
theorem State.abandonHeld_bay (s : State) (b : BayId) :
    ∃ pu sl, (s.abandonHeld b).bay b = { s.bay b with pendingUp := pu, slot := sl } := by
  unfold State.abandonHeld
  split
  · obtain ⟨sl, hsl⟩ := (s.modifyBay b fun x => { x with pendingUp := false }).completeCommand_slot b .aborted
    exact ⟨false, sl, by rw [hsl, State.modifyBay_bay_self]⟩
  · exact ⟨_, _, rfl⟩

theorem State.cooldownEnds_idle {s : State} {b : BayId} (h : (s.bay b).pendingUp = false) :
    s.cooldownEnds b = s.enterOff b := by
  unfold State.cooldownEnds
  rw [State.abandonHeld_rests (.inl h)]
  exact if_neg (by rw [h]; exact Bool.false_ne_true)

theorem State.cooldownEnds_held {s : State} {b : BayId} (hp : (s.bay b).pendingUp = true)
    (hr : s.heldReady b = true) : s.cooldownEnds b = s.beginPowerUp b := by
  unfold State.cooldownEnds
  rw [State.abandonHeld_rests (.inr hr)]
  exact if_pos hp

/-- The bay whose held power-up is withdrawn, its POWER_ON ended ABORTED (R35). -/
def State.heldAborted (s : State) (b : BayId) : State :=
  (s.modifyBay b fun x => { x with pendingUp := false, slot := Slot.ended .powerOn x.slot.tag .aborted }).enqueue
    (.bay b) (.command .powerOn (s.bay b).slot.tag .aborted)

@[simp] theorem State.heldAborted_bay (s : State) (b : BayId) :
    (s.heldAborted b).bay b =
      { s.bay b with pendingUp := false, slot := Slot.ended .powerOn (s.bay b).slot.tag .aborted } := by
  rw [State.heldAborted, State.enqueue_bay, State.modifyBay_bay_self]

theorem State.heldAborted_tells (s : State) (b : BayId) :
    (s.heldAborted b).TellsAs (s.enqueue (.bay b) (.command .powerOn (s.bay b).slot.tag .aborted)) :=
  (s.modifyBay_tells b _).enqueue _ _

theorem State.heldAborted_judges (s : State) (b : BayId) : (s.heldAborted b).JudgesAs s b :=
  ⟨by rw [State.heldAborted_bay], by rw [State.heldAborted_bay], rfl⟩

theorem State.abandonHeld_aborts {s : State} {b : BayId} (hp : (s.bay b).pendingUp = true)
    (hr : s.heldReady b = false) (hs : (s.bay b).slot.runs .powerOn = true) : s.abandonHeld b = s.heldAborted b := by
  rw [State.abandonHeld_of_unready hp hr,
    State.completeCommand_of_runs (c := .powerOn) (by rw [State.modifyBay_bay_self]; exact hs),
    State.modifyBay_modifyBay, State.modifyBay_bay_self, State.heldAborted]

theorem State.cooldownEnds_aborts {s : State} {b : BayId} (hp : (s.bay b).pendingUp = true)
    (hr : s.heldReady b = false) (hs : (s.bay b).slot.runs .powerOn = true) :
    s.cooldownEnds b = (s.heldAborted b).offTold b := by
  have hready : (s.heldAborted b).autoStartReady b = false :=
    (s.heldAborted_judges b).autoStartReady.trans (State.autoStartReady_of_not_heldReady hr)
  unfold State.cooldownEnds
  rw [State.abandonHeld_aborts hp hr hs, ← State.enterOff_rests hready]
  exact if_neg (by rw [State.heldAborted_bay]; exact Bool.false_ne_true)

/-- What the entry into COOL and the end of a cooldown leave of a bay; a power-up that begins makes its own update
of the target. -/
structure Bay.KeptByCooldown (x y : Bay) : Prop where
  step : y.step = x.step
  confirmed : y.confirmed = x.confirmed
  accepted : y.accepted = x.accepted
  faultKind : y.faultKind = x.faultKind
  faultCount : y.faultCount = x.faultCount
  target : y.power ≠ .ramp → y.target = x.target

theorem State.beginPowerUp_keptByCooldown (s : State) (b : BayId) :
    (s.bay b).KeptByCooldown ((s.beginPowerUp b).bay b) := by
  obtain ⟨tm, g, h⟩ := s.beginPowerUp_bay b
  rw [h]
  exact ⟨rfl, rfl, rfl, rfl, rfl, fun hp => absurd rfl hp⟩

theorem State.enterOff_keptByCooldown (s : State) (b : BayId) :
    (s.bay b).KeptByCooldown ((s.enterOff b).bay b) := by
  cases h : s.autoStartReady b with
  | false =>
    rw [State.enterOff_rests h, State.offTold_bay]
    exact ⟨rfl, rfl, rfl, rfl, rfl, fun _ => rfl⟩
  | true =>
    rw [State.enterOff_starts h]
    have hkept := (s.offTold b).beginPowerUp_keptByCooldown b
    rw [State.offTold_bay] at hkept
    exact { hkept with }

theorem State.cooldownEnds_keptByCooldown (s : State) (b : BayId) :
    (s.bay b).KeptByCooldown ((s.cooldownEnds b).bay b) := by
  obtain ⟨pu, sl, hbay⟩ := s.abandonHeld_bay b
  have hkept : ((s.abandonHeld b).bay b).KeptByCooldown ((s.cooldownEnds b).bay b) := by
    unfold State.cooldownEnds
    dsimp only
    split
    · exact State.beginPowerUp_keptByCooldown _ b
    · exact State.enterOff_keptByCooldown _ b
  rw [hbay] at hkept
  exact { hkept with }

/-! ## The expiry of COOLDOWN (R35) -/

/-- The expiry of a sequence timer that is due, in the power state it belongs to (R18, R23). -/
theorem State.expiry_answers {s : State} {b : BayId} {p : SeqPurpose} {w : PowerState} (hr : s.resetLow = false)
    (ht : (s.bay b).timer = some { purpose := p, left := 0 }) (hp : (s.bay b).power = w) (u : State) :
    ∃ t, s.event (if s.timerDue b p && (s.bay b).power = w then u else s) = .next t ∧ t.AnswersAs u := by
  rw [if_pos (by simp [State.timerDue, ht, hp])]
  exact s.event_answers hr u

/-- Settles O36: OFF, an automatic start, the held power-up, or its end. -/
theorem cooldownExpiry : Obligations.CooldownExpiry := by
  intro b s hr x ht hp
  obtain ⟨s', hs'⟩ : ∃ s', s' = s.modifyBay b fun x => { x with timer := none } := ⟨_, rfl⟩
  obtain ⟨t, hexec, ha⟩ : ∃ t, exec (.cooldownExpiry b) s = .next t ∧ t.AnswersAs (s'.cooldownEnds b) := by
    rw [hs']; exact State.expiry_answers hr ht hp _
  have hbay : s'.bay b = { x with timer := none } := by rw [hs']; exact s.modifyBay_bay_self b _
  have htells : s'.TellsAs s := by rw [hs']; exact s.modifyBay_tells b _
  have hjudges : s'.JudgesAs s b := ⟨by rw [hbay], by rw [hbay], by rw [hs']; rfl⟩
  have helse : s.SameElsewhere t b := ha.sameElsewhere
    ⟨fun c hc => by rw [State.cooldownEnds_bay_ne _ _ _ hc, hs', State.modifyBay_bay_ne _ _ _ _ hc],
      fun m hm => by rw [State.cooldownEnds_engine_ne _ _ _ hm, hs']; rfl⟩
  have hshell : t.shell = s.shell := by rw [ha.shell, State.cooldownEnds_shell, hs']; rfl
  refine ⟨fun hidle hready => ⟨t, hexec, ?_⟩, fun hidle hon hpres hlatch hclass => ⟨t, hexec, ?_⟩,
    fun hheld hready => ⟨t, hexec, ?_⟩, fun hheld hready hruns => ⟨t, hexec, ?_⟩⟩
  · rw [State.cooldownEnds_idle (by rw [hbay]; exact hidle),
      State.enterOff_rests (hjudges.autoStartReady.trans hready)] at ha
    refine ⟨?_, (ha.tells.trans ((s'.offTold_tells b).trans (htells.enqueue _ _))).events, ?_, helse, hshell⟩
    · rw [ha.bay, State.offTold_bay, hbay]
    · rw [ha.engines, hs']; rfl
  · have hready := (s.autoStartReady_iff b).mpr ⟨hon, hpres, hlatch, hclass⟩
    rw [State.cooldownEnds_idle (by rw [hbay]; exact hidle),
      State.enterOff_starts (hjudges.autoStartReady.trans hready)] at ha
    obtain ⟨tm, g, hup⟩ := (s'.offTold b).beginPowerUp_bay b
    rw [← ha.bay, (s'.offTold_judges b).classProfile, hjudges.classProfile, State.offTold_bay, hbay,
      rampUpdate_eq] at hup
    rw [hup]
    exact ⟨rfl, rfl, rfl, rfl, rfl, (ha.tells.trans (((s'.offTold b).beginPowerUp_tells b).trans
      ((s'.offTold_tells b).trans (htells.enqueue _ _)))).events, helse, hshell⟩
  · rw [State.cooldownEnds_held (by rw [hbay]; exact hheld) (hjudges.heldReady.trans hready)] at ha
    obtain ⟨tm, g, hup⟩ := s'.beginPowerUp_bay b
    rw [← ha.bay, hjudges.classProfile, hbay, rampUpdate_eq] at hup
    rw [hup]
    exact ⟨rfl, rfl, rfl, rfl, rfl, (ha.tells.trans ((s'.beginPowerUp_tells b).trans htells)).events, helse, hshell⟩
  · rw [State.cooldownEnds_aborts (by rw [hbay]; exact hheld) (hjudges.heldReady.trans hready)
      (by rw [hbay]; exact hruns)] at ha
    have htold := (s'.heldAborted_tells b).trans (htells.enqueue _ _)
    rw [hbay] at htold
    refine ⟨?_, (ha.tells.trans (((s'.heldAborted b).offTold_tells b).trans (htold.enqueue _ _))).events, ?_, helse,
      hshell⟩
    · rw [ha.bay, State.offTold_bay, State.heldAborted_bay, hbay]
    · rw [ha.engines, hs']; rfl

end Sys2Proof.Machine

/-! # The entry into COOL (R34) -/

namespace Sys2Proof.Machine

/-! ## Up to its STATE record -/

theorem Image.autoInd_eq (i : Image) (auto : Bool) (m : IndMode) :
    i.autoInd auto m = { i with indP := if auto then m else i.indP } := by
  unfold Image.autoInd
  split <;> rfl

/-- The bay in COOL, its indicator off, before its records (R34, R41). -/
def State.cooled (s : State) (b : BayId) : State :=
  ((s.modifyBay b fun x => { x with power := .cool, timer := none }).updateTarget b
    (fun i => i.autoInd (s.bay b).config.autoInd .off) false).modifyBay b fun x =>
      { x with step := none, stepGen := none }

theorem State.cooled_bay (s : State) (b : BayId) :
    ∃ g, (s.cooled b).bay b = { s.bay b with
      power := .cool, timer := none, step := none, stepGen := none, targetGen := g,
      target := (s.bay b).target.autoInd (s.bay b).config.autoInd .off } :=
  ⟨_, by rw [State.cooled, State.modifyBay_bay_self, State.updateTarget_bay, State.modifyBay_bay_self]⟩

theorem State.cooled_shell (s : State) (b : BayId) : (s.cooled b).shell = s.shell := by
  unfold State.cooled
  simp

theorem State.cooled_tells (s : State) (b : BayId) : (s.cooled b).TellsAs s := by
  refine .of_shell ?_ (s.cooled_shell b)
  rw [State.cooled, State.modifyBay_events, State.updateTarget_events, State.modifyBay_events]

/-- The slot once the entry into COOL has ended a POWER_OFF in progress (R34). -/
def Slot.afterCool (sl : Slot) : Slot := if sl.runs .powerOff then Slot.ended .powerOff sl.tag .done else sl

/-- The COMMAND record of that end (R34). -/
def Slot.coolDetails (sl : Slot) : List Detail :=
  if sl.runs .powerOff then [.command .powerOff sl.tag .done] else []

/-- The STATE record of an entry into COOL (R34, R47). -/
def Slot.coolRecord (sl : Slot) (cause : Option StateCause) : Detail :=
  .state .cool (cause.getD (if sl.runs .powerOff then .command else .auto))

section NotOff

variable {sl : Slot} (h : sl.runs .powerOff = false)
include h

theorem Slot.afterCool_of_not_off : sl.afterCool = sl := if_neg (by rw [h]; exact Bool.false_ne_true)

theorem Slot.coolDetails_of_not_off : sl.coolDetails = [] := if_neg (by rw [h]; exact Bool.false_ne_true)

theorem Slot.coolRecord_of_not_off (cause : Option StateCause) :
    sl.coolRecord cause = .state .cool (cause.getD .auto) := by
  unfold Slot.coolRecord
  rw [h]
  rfl

end NotOff

/-- The bay in COOL, its POWER_OFF ended (R34). -/
def State.coolTold (s : State) (b : BayId) : State :=
  if (s.bay b).slot.runs .powerOff then (s.cooled b).completeCommand b .done else s.cooled b

theorem State.coolTold_bay (s : State) (b : BayId) :
    ∃ g, (s.coolTold b).bay b = { s.bay b with
      power := .cool, timer := none, step := none, stepGen := none, targetGen := g,
      target := (s.bay b).target.autoInd (s.bay b).config.autoInd .off, slot := (s.bay b).slot.afterCool } := by
  obtain ⟨g, hg⟩ := s.cooled_bay b
  refine ⟨g, ?_⟩
  unfold State.coolTold Slot.afterCool
  split
  · next h =>
    rw [State.completeCommand_of_runs (c := .powerOff) (by rw [hg]; exact h), State.enqueue_bay,
      State.modifyBay_bay_self, hg]
  · exact hg

theorem State.coolTold_shell (s : State) (b : BayId) : (s.coolTold b).shell = s.shell := by
  unfold State.coolTold
  split <;> simp [State.cooled_shell]

theorem State.coolTold_tells (s : State) (b : BayId) :
    (s.coolTold b).TellsAs (s.enqueueAll (.bay b) (s.bay b).slot.coolDetails) := by
  obtain ⟨g, hg⟩ := s.cooled_bay b
  unfold State.coolTold Slot.coolDetails
  split
  · next h =>
    rw [State.completeCommand_of_runs (c := .powerOff) (by rw [hg]; exact h), hg]
    exact ((State.modifyBay_tells _ b _).trans (s.cooled_tells b)).enqueue _ _
  · exact s.cooled_tells b

theorem State.coolTold_judges (s : State) (b : BayId) : (s.coolTold b).JudgesAs s b := by
  obtain ⟨g, hg⟩ := s.coolTold_bay b
  exact .of_shell (by rw [hg]) (by rw [hg]) (s.coolTold_shell b)

theorem State.profileOf_of_eq {s u : State} {b : BayId} (hp : (s.bay b).profile = (u.bay b).profile)
    (hs : s.shell = u.shell) : s.profileOf b = u.profileOf b := by
  have hprofiles : s.profiles = u.profiles := congrArg Shell.profiles hs
  simp only [State.profileOf, hp, hprofiles]

/-- The entry into COOL by its cooldown: started, or taken as expired in the same event (R34, R48). -/
theorem State.enterCool_eq (s : State) (b : BayId) (cause : Option StateCause) :
    s.enterCool b cause =
      if (s.profileOf b).cooldown.toNat = 0 then
        (((s.coolTold b).abandonHeld b).enqueue (.bay b) ((s.bay b).slot.coolRecord cause)).cooldownEnds b
      else ((s.coolTold b).enqueue (.bay b) ((s.bay b).slot.coolRecord cause)).startTimer b .cooldown
        (s.profileOf b).cooldown.toNat := by
  obtain ⟨g, hg⟩ := s.cooled_bay b
  obtain ⟨g', hg'⟩ := s.coolTold_bay b
  have hprofile : (s.coolTold b).profileOf b = s.profileOf b :=
    State.profileOf_of_eq (by rw [hg']) (s.coolTold_shell b)
  have hslot : ((s.cooled b).bay b).slot = (s.bay b).slot := by rw [hg]
  have hunfold : s.enterCool b cause =
      let s4 := if ((s.cooled b).bay b).slot.runs .powerOff then (s.cooled b).completeCommand b .done else s.cooled b
      let n := (s4.profileOf b).cooldown.toNat
      let s5 := if n = 0 then s4.abandonHeld b else s4
      let s6 := s5.enqueue (.bay b) (.state .cool (cause.getD
        (if ((s.cooled b).bay b).slot.runs .powerOff then .command else .auto)))
      if n = 0 then s6.cooldownEnds b else s6.startTimer b .cooldown n := rfl
  rw [hunfold, hslot]
  change (let n := ((s.coolTold b).profileOf b).cooldown.toNat
    let s5 := if n = 0 then (s.coolTold b).abandonHeld b else s.coolTold b
    let s6 := s5.enqueue (.bay b) ((s.bay b).slot.coolRecord cause)
    if n = 0 then s6.cooldownEnds b else s6.startTimer b .cooldown n) = _
  rw [hprofile]
  dsimp only
  split <;> rfl

/-! ## What has happened then (R34, R35, R48) -/

theorem State.startTimer_bay (s : State) (b : BayId) (p : SeqPurpose) (n : Nat) :
    (s.startTimer b p n).bay b = { s.bay b with timer := some { purpose := p, left := n } } :=
  s.modifyBay_bay_self b _

theorem State.startTimer_tells (s : State) (b : BayId) (p : SeqPurpose) (n : Nat) : (s.startTimer b p n).TellsAs s :=
  s.modifyBay_tells b _

theorem State.enterCool_keptByCooldown (s : State) (b : BayId) (cause : Option StateCause) :
    let x := s.bay b
    ({ x with step := none, target := x.target.autoInd x.config.autoInd .off } : Bay).KeptByCooldown
      ((s.enterCool b cause).bay b) := by
  intro x
  obtain ⟨g, hg⟩ := s.coolTold_bay b
  rw [State.enterCool_eq]
  split
  · obtain ⟨pu, sl, hbay⟩ := (s.coolTold b).abandonHeld_bay b
    have hkept := (((s.coolTold b).abandonHeld b).enqueue (.bay b)
      ((s.bay b).slot.coolRecord cause)).cooldownEnds_keptByCooldown b
    rw [State.enqueue_bay, hbay, hg] at hkept
    exact { hkept with }
  · rw [State.startTimer_bay, State.enqueue_bay, hg]
    exact ⟨rfl, rfl, rfl, rfl, rfl, fun _ => rfl⟩

/-- The records of an entry into COOL up to its STATE record. -/
theorem State.coolTold_enqueue_tells (s : State) (b : BayId) (cause : Option StateCause) :
    ((s.coolTold b).enqueue (.bay b) ((s.bay b).slot.coolRecord cause)).TellsAs
      (s.enqueueAll (.bay b) ((s.bay b).slot.coolDetails ++ [(s.bay b).slot.coolRecord cause])) := by
  rw [State.enqueueAll_append]
  exact (s.coolTold_tells b).enqueue _ _

/-- Without a COOLDOWN a held power-up that fails its checks is abandoned before the STATE records (R35, R48). -/
theorem State.enterCool_aborts {s : State} {b : BayId} {cause : Option StateCause}
    (hn : (s.profileOf b).cooldown.toNat = 0) (hp : (s.bay b).pendingUp = true) (hready : s.heldReady b = false)
    (hruns : (s.bay b).slot.runs .powerOn = true) :
    s.enterCool b cause =
      (((s.coolTold b).heldAborted b).enqueue (.bay b) ((s.bay b).slot.coolRecord cause)).offTold b := by
  obtain ⟨g, hg⟩ := s.coolTold_bay b
  rw [Slot.afterCool_of_not_off (Slot.runs_unique hruns (by decide))] at hg
  have hj := ((State.enqueue_judges _ b (.bay b) ((s.bay b).slot.coolRecord cause)).trans
    ((s.coolTold b).heldAborted_judges b)).trans (s.coolTold_judges b)
  rw [State.enterCool_eq, if_pos hn, State.abandonHeld_aborts (by rw [hg]; exact hp)
    ((s.coolTold_judges b).heldReady.trans hready) (by rw [hg]; exact hruns),
    State.cooldownEnds_idle (by rw [State.enqueue_bay, State.heldAborted_bay]),
    State.enterOff_rests (hj.autoStartReady.trans (State.autoStartReady_of_not_heldReady hready))]

/-- A bay that enters COOL has entered it as the manual says, whatever its COOLDOWN and its held power-up. -/
theorem State.enterCool_entered (s : State) (b : BayId) (cause : Option StateCause) :
    s.CoolEntered (s.enterCool b cause) b cause := by
  obtain ⟨g, hg⟩ := s.coolTold_bay b
  obtain ⟨w, hw⟩ : ∃ w, w = (s.coolTold b).enqueue (.bay b) ((s.bay b).slot.coolRecord cause) := ⟨_, rfl⟩
  have hwbay : w.bay b = (s.coolTold b).bay b := by rw [hw, State.enqueue_bay]
  have htold : w.TellsAs (s.enqueueAll (.bay b) ((s.bay b).slot.coolDetails ++ [(s.bay b).slot.coolRecord cause])) := by
    rw [hw]; exact s.coolTold_enqueue_tells b cause
  have htold_off : (w.offTold b).TellsAs (s.enqueueAll (.bay b)
      ((s.bay b).slot.coolDetails ++ [(s.bay b).slot.coolRecord cause, .state .off .auto])) := by
    rw [List.append_cons, State.enqueueAll_append]
    exact (w.offTold_tells b).trans (htold.enqueue _ _)
  have hu := s.coolTold_judges b
  have hj : w.JudgesAs s b := ⟨by rw [hwbay, hu.config], by rw [hwbay, hu.accepted], by rw [hw]; exact hu.classMap⟩
  have hidle : (s.profileOf b).cooldown.toNat = 0 → (s.bay b).pendingUp = false ∨ s.heldReady b = true →
      s.enterCool b cause = w.cooldownEnds b := fun hn h => by
    rw [State.enterCool_eq, if_pos hn, State.abandonHeld_rests (by rw [hg, hu.heldReady]; exact h), ← hw]
  refine ⟨(s.enterCool_keptByCooldown b cause).step, fun hn => ?_, fun hn hp hready => ?_, fun hn hp hready => ?_,
    fun hn hp hready => ?_, fun hn hp hready hruns => ?_⟩
  · rw [State.enterCool_eq, if_neg hn, ← hw, State.startTimer_bay, hwbay, hg]
    exact ⟨rfl, rfl, rfl, rfl, rfl, rfl, ((w.startTimer_tells b _ _).trans htold).events⟩
  · rw [hidle hn (.inl hp), State.cooldownEnds_idle (by rw [hwbay, hg]; exact hp),
      State.enterOff_rests (hj.autoStartReady.trans hready), State.offTold_bay, hwbay, hg]
    exact ⟨rfl, rfl, rfl, rfl, rfl, htold_off.events⟩
  · rw [hidle hn (.inl hp), State.cooldownEnds_idle (by rw [hwbay, hg]; exact hp),
      State.enterOff_starts (hj.autoStartReady.trans hready)]
    obtain ⟨tm, g', hup⟩ := (w.offTold b).beginPowerUp_bay b
    rw [(w.offTold_judges b).classProfile, hj.classProfile, State.offTold_bay, hwbay, hg] at hup
    rw [hup]
    exact ⟨rfl, rfl, rfl, (((w.offTold b).beginPowerUp_tells b).trans htold_off).events⟩
  · rw [hidle hn (.inr hready), State.cooldownEnds_held (by rw [hwbay, hg]; exact hp) (hj.heldReady.trans hready)]
    obtain ⟨tm, g', hup⟩ := w.beginPowerUp_bay b
    rw [hj.classProfile, hwbay, hg] at hup
    rw [hup]
    exact ⟨rfl, rfl, rfl, rfl, ((w.beginPowerUp_tells b).trans htold).events⟩
  · have hnotOff : (s.bay b).slot.runs .powerOff = false := Slot.runs_unique hruns (by decide)
    have hut := s.coolTold_tells b
    rw [Slot.coolDetails_of_not_off hnotOff] at hut
    rw [Slot.afterCool_of_not_off hnotOff] at hg
    have habort := ((s.coolTold b).heldAborted_tells b).trans (hut.enqueue _ _)
    rw [State.enterCool_aborts hn hp hready hruns, State.offTold_bay, State.enqueue_bay, State.heldAborted_bay, hg,
      Slot.coolRecord_of_not_off hnotOff]
    rw [hg] at habort
    rw [hnotOff]
    exact ⟨rfl, rfl, rfl, rfl, ((State.offTold_tells _ b).trans ((habort.enqueue _ _).enqueue _ _)).events⟩

end Sys2Proof.Machine

/-! # CLEAR_FAULT (R46, R60, R68) -/

namespace Sys2Proof.Machine

/-! ## Entries into COOL from states that cool alike -/

/-- What the entry into COOL reads of a bay. -/
def Bay.coolFields (x : Bay) : BayConfig × Accepted × Slot × Bool × Option ProfileId :=
  (x.config, x.accepted, x.slot, x.pendingUp, x.profile)

/-- From `s` and `u` bay `b` enters COOL alike: what the entry reads, and what its records are told to, is the
same. -/
structure State.CoolsAs (s u : State) (b : BayId) : Prop where
  tells : s.TellsAs u
  fields : (s.bay b).coolFields = (u.bay b).coolFields
  profiles : s.profiles = u.profiles
  classMap : s.classMap = u.classMap

theorem State.CoolsAs.coolEntered {s u t : State} {b : BayId} {cause : Option StateCause} (h : s.CoolsAs u b)
    (ht : s.CoolEntered t b cause) : u.CoolEntered t b cause := by
  obtain ⟨htells, hfields, hprofiles, hclassMap⟩ := h
  simp only [Bay.coolFields, Prod.mk.injEq] at hfields
  obtain ⟨hconfig, haccepted, hslot, hpending, hprof⟩ := hfields
  have hjudges : s.JudgesAs u b := ⟨hconfig, haccepted, hclassMap⟩
  have hprofile : s.profileOf b = u.profileOf b := by simp only [State.profileOf, hprof, hprofiles]
  have htold : ∀ ds, (s.enqueueAll (.bay b) ds).events = (u.enqueueAll (.bay b) ds).events := fun ds =>
    (htells.enqueueAll _ ds).events
  unfold State.CoolEntered at ht ⊢
  simp only [hslot, hpending, hprof, hprofile, htold, hjudges.classProfile, hjudges.autoStartReady,
    hjudges.heldReady] at ht
  exact ht

theorem State.CoolsAs.of_shell {s u : State} {b : BayId} (he : s.events = u.events)
    (hf : (s.bay b).coolFields = (u.bay b).coolFields) (hs : s.shell = u.shell) : s.CoolsAs u b :=
  ⟨.of_shell he hs, hf, congrArg Shell.profiles hs, congrArg Shell.classMap hs⟩

theorem State.CoolsAs.trans {s t u : State} {b : BayId} (h : s.CoolsAs t b) (h' : t.CoolsAs u b) : s.CoolsAs u b :=
  ⟨h.tells.trans h'.tells, h.fields.trans h'.fields, h.profiles.trans h'.profiles, h.classMap.trans h'.classMap⟩

/-! ## The awaited generation (R60) -/

theorem State.takeSlot_await (s : State) (b : BayId) (c : BayCommand) (tag : Byte) (g : Option Half) :
    (s.takeSlot b c tag).await b g =
      (s.modifyBay b fun x => { x with slot := Slot.holding c tag g }).awaitedTest b := by
  rw [State.await, State.takeSlot_eq, State.modifyBay_modifyBay]
  rfl

section Awaits

variable {s : State} {b : BayId} {c : BayCommand} {tag : Byte} {g : Half}
  (h : (s.bay b).slot = Slot.holding c tag (some g))
include h

theorem State.awaitedTest_waits (hg : (s.bay b).reached g = false) : s.awaitedTest b = s := by
  simp [State.awaitedTest, h, Slot.holding, hg]

theorem State.awaitedTest_done (hg : (s.bay b).reached g = true) (hc : c ≠ .clearFault) :
    s.awaitedTest b = s.completeCommand b .done := by
  simp [State.awaitedTest, h, Slot.holding, hg, hc]

end Awaits

theorem State.awaitedTest_cleared {s : State} {b : BayId} {tag : Byte} {g : Half}
    (h : (s.bay b).slot = Slot.holding .clearFault tag (some g)) (hg : (s.bay b).reached g = true) :
    s.awaitedTest b = s.faultCleared b := by
  simp [State.awaitedTest, h, Slot.holding, hg]

/-- A CLEAR_FAULT that completes clears the fault status, ends DONE and takes the bay to COOL (R46). -/
theorem State.faultCleared_eq {s : State} {b : BayId} (h : (s.bay b).slot.runs .clearFault = true) :
    s.faultCleared b =
      ((s.modifyBay b fun x => { x with
        faultKind := .noFault, faultCount := 0, slot := Slot.ended .clearFault x.slot.tag .done }).enqueue (.bay b)
        (.command .clearFault (s.bay b).slot.tag .done)).enterCool b (some .command) := by
  unfold State.faultCleared
  rw [State.completeCommand_of_runs (c := .clearFault) (by rw [State.modifyBay_bay_self]; exact h),
    State.modifyBay_modifyBay, State.modifyBay_bay_self]

theorem State.specificCheck_clearFault {s : State} {b : BayId} (hp : (s.bay b).power = .faulted)
    (hf : (s.bay b).live.fault = false) : s.specificCheck b .clearFault = none := by
  simp [State.specificCheck, hp, hf]

/-- Settles O33: CLEAR_FAULT awaits the fault's write, or finds it done and clears. -/
theorem clearFaultAccepted : Obligations.ClearFaultAccepted := by
  intro b tag g s ht x hl hi hp hf hstep
  obtain ⟨s', hs'⟩ : ∃ s', s' = s.afterWord (Reg.bay b .command).addr := ⟨_, rfl⟩
  have hx : s'.bay b = x := by rw [hs']; rfl
  obtain ⟨u, hu⟩ : ∃ u, u = s'.modifyBay b fun y => { y with slot := Slot.holding .clearFault tag (some g) } := ⟨_, rfl⟩
  have hubay : u.bay b = { x with slot := Slot.holding .clearFault tag (some g) } := by
    rw [hu, State.modifyBay_bay_self, hx]
  have hres : s'.takeCommand b .clearFault tag noArgs = u.awaitedTest b := by
    rw [State.takeCommand_idle (by rw [hx]; exact hl) (by rw [hx]; exact hi)
      (State.specificCheck_clearFault (by rw [hx]; exact hp) (by rw [hx]; exact hf)), hu, ← State.takeSlot_await,
      ← hstep, ← hx]
    rw [State.firstEffect, State.takeSlot_eq, State.modifyBay_bay_self]
  obtain ⟨helse, hshell⟩ := s.takeCommand_frame b .clearFault tag noArgs
  rw [← hs'] at helse hshell ⊢
  refine ⟨fun hg => ?_, fun hg => ?_⟩
  · rw [State.awaitedTest_waits (by rw [hubay]) (by rw [hubay]; exact hg)] at hres
    rw [← hu]
    exact exec_bayCommand_quiet ht .clearFault tag noArgs (by rw [← hs', hres]) (by rw [hu, hs']; rfl)
  · rw [State.awaitedTest_cleared (by rw [hubay]) (by rw [hubay]; exact hg),
      State.faultCleared_eq (by rw [hubay]; rfl), hubay] at hres
    obtain ⟨t, hexec, ha⟩ := exec_bayCommand_answers ht .clearFault tag noArgs
    rw [← hs'] at ha
    have hshell' := ha.shell.trans hshell
    have helse' := ha.sameElsewhere helse
    obtain ⟨v, hv⟩ : ∃ v, v = (u.modifyBay b fun y => { y with
        faultKind := .noFault, faultCount := 0, slot := Slot.ended .clearFault y.slot.tag .done }).enqueue (.bay b)
        (.command .clearFault tag .done) := ⟨_, rfl⟩
    have hvbay : v.bay b = { x with
        faultKind := .noFault, faultCount := 0, slot := Slot.ended .clearFault tag .done } := by
      rw [hv, State.enqueue_bay, State.modifyBay_bay_self, hubay]; rfl
    rw [show s'.takeCommand b .clearFault tag noArgs = v.enterCool b (some .command) from
      hres.trans (by rw [hv]; rfl)] at ha
    have hcools : v.CoolsAs ((s.modifyBay b fun y => { y with slot := Slot.ended .clearFault tag .done }).enqueue
        (.bay b) (.command .clearFault tag .done)) b := by
      refine ⟨by rw [hv, hu, hs']; exact ⟨rfl, rfl, rfl⟩, ?_, by rw [hv, hu, hs']; rfl, by rw [hv, hu, hs']; rfl⟩
      rw [State.enqueue_bay, State.modifyBay_bay_self, hvbay]
      rfl
    have hkept := v.enterCool_keptByCooldown b (some .command)
    rw [← ha.bay, hvbay] at hkept
    exact ⟨t, hexec, hkept.faultKind, hkept.faultCount,
      ha.coolEntered (hcools.coolEntered (v.enterCool_entered b _)), hkept.target, helse', hshell'⟩

end Sys2Proof.Machine

/-! # Draining (R31 to R34, R39) -/

namespace Sys2Proof.Machine

/-! ## The updates of a drain (R32) -/

theorem drainUpdate_pwrEn (c : BayConfig) (conf i : Image) (st : SeqStep) :
    (drainUpdate c conf st i).pwrEn = (conf.pwrEn && decide (st ≠ .p)) := by
  cases st <;> simp [drainUpdate]

theorem drainUpdate_clkEn (c : BayConfig) (conf i : Image) (st : SeqStep) :
    (drainUpdate c conf st i).clkEn = (conf.clkEn && decide (st ≠ .c)) := by
  cases st <;> simp [drainUpdate]

theorem drainUpdate_released (c : BayConfig) (conf i : Image) (st : SeqStep) :
    (drainUpdate c conf st i).released = (conf.released && decide (st ≠ .r)) := by
  cases st <;> simp [drainUpdate]

theorem drainUpdate_indP {c : BayConfig} (h : c.autoInd = true) (conf i : Image) (st : SeqStep) :
    (drainUpdate c conf st i).indP = if st = .p then .off else .slow := by
  cases st <;> simp [drainUpdate, Image.autoInd, h]

theorem drainCompletion_autoInd (c : BayConfig) (i : Image) :
    (drainCompletion c i).autoInd c.autoInd .off = { i with
      pwrEn := false, clkEn := false, released := false, indP := if c.autoInd then .off else i.indP } := by
  unfold drainCompletion Image.autoInd Image.powerOff
  split <;> rfl

/-! ## Drain steps (R32) -/

/-- The step generation of a drain step: the next target generation where its update changes a field (R11, R32). -/
def Bay.drainGen (x : Bay) (st : SeqStep) : Half :=
  if drainUpdate x.config x.confirmedImage st x.target = x.target then x.targetGen else x.targetGen + 1

/-- The bay once a drain step has made its update (R32). -/
def Bay.drained (x : Bay) (st : SeqStep) : Bay :=
  { x with target := drainUpdate x.config x.confirmedImage st x.target, targetGen := x.drainGen st,
           step := some st, stepGen := some (x.drainGen st), timer := none }

theorem State.drainStep_bay (s : State) (b : BayId) (st : SeqStep) :
    (s.drainStep b st).bay b = (s.bay b).drained st := by
  rw [State.drainStep, State.modifyBay_bay_self, State.updateTarget_bay]
  rfl

theorem State.drainStep_tells (s : State) (b : BayId) (st : SeqStep) : (s.drainStep b st).TellsAs s :=
  .of_shell (by rw [State.drainStep, State.modifyBay_events, State.updateTarget_events]) (s.drainStep_shell b st)

/-- The update of a drain step requests a write where it changes a field (R11, R32). -/
theorem State.drainStep_hasWrite {s : State} {b : BayId} {st : SeqStep}
    (h : ((s.bay b).drained st).target ≠ (s.bay b).target) (hl : (s.bay b).link = .bound)
    (ht : (s.engine (busOf b)).takes = true) : HasWrite ((s.drainStep b st).engine (busOf b)).queue b := by
  rw [State.drainStep, State.modifyBay_engine, State.updateTarget_queue h hl ht]
  exact hasWrite_queueWrite _ b _

/-- A drain step whose write is still to come waits for it (R22, R32). -/
theorem State.drainCompute_waits {s : State} {b : BayId} {st : SeqStep}
    (hc : drainCase (s.bay b).confirmedImage = some st) (hg : (s.bay b).reached ((s.bay b).drainGen st) = false)
    (fuel : Nat) : State.drainCompute fuel s b = s.drainStep b st := by
  have hwait : ((s.drainStep b st).bay b).stepReached = false := by rw [State.drainStep_bay]; exact hg
  cases fuel <;> simp [State.drainCompute, hc, hwait]

/-- With no output on, the drain is complete (R32). -/
theorem State.drainCompute_done {s : State} {b : BayId} (hc : drainCase (s.bay b).confirmedImage = none)
    (fuel : Nat) : State.drainCompute fuel s b = s.drainDone b := by
  cases fuel <;> simp [State.drainCompute, hc]

theorem State.drainDone_entered (s : State) (b : BayId) : s.CoolEntered (s.drainDone b) b none := by
  have hcools : (s.updateTarget b (drainCompletion (s.bay b).config) false).CoolsAs s b :=
    .of_shell (s.updateTarget_events b _ _) (by rw [State.updateTarget_bay]; rfl) (s.updateTarget_shell b _ _)
  exact hcools.coolEntered (State.enterCool_entered _ b none)

theorem State.drainDone_keptByCooldown (s : State) (b : BayId) :
    let x := s.bay b
    ({ x with step := none, target := { x.target with
        pwrEn := false, clkEn := false, released := false,
        indP := if x.config.autoInd then .off else x.target.indP } } : Bay).KeptByCooldown
      ((s.drainDone b).bay b) := by
  intro x
  have hkept := (s.updateTarget b (drainCompletion x.config) false).enterCool_keptByCooldown b none
  rw [State.updateTarget_bay] at hkept
  rw [← drainCompletion_autoInd]
  exact { hkept with }

/-! ## The beginning of a drain (R31) -/

/-- The bay in DRAIN before its first step (R31). -/
def State.drainBegun (s : State) (b : BayId) : State :=
  s.modifyBay b fun x => { x with power := .drain, timer := none, step := none, stepGen := none }

theorem State.drainBegun_bay (s : State) (b : BayId) :
    (s.drainBegun b).bay b = { s.bay b with power := .drain, timer := none, step := none, stepGen := none } :=
  s.modifyBay_bay_self b _

theorem State.drainBegun_tells (s : State) (b : BayId) : (s.drainBegun b).TellsAs s := s.modifyBay_tells b _

theorem State.drainBegun_coolsAs (s : State) (b : BayId) : (s.drainBegun b).CoolsAs s b :=
  ⟨s.drainBegun_tells b, by rw [State.drainBegun_bay]; rfl, rfl, rfl⟩

theorem State.writeUnderWay_of_engine {s u : State} {b : BayId} (h : s.engine (busOf b) = u.engine (busOf b)) :
    s.writeUnderWay b = u.writeUnderWay b := by
  unfold State.writeUnderWay
  rw [h]

/-- A power-down that ends no POWER_ON (R31). -/
theorem State.powerDown_eq {s : State} {b : BayId} (h : (s.bay b).slot.runs .powerOn = false) :
    s.powerDown b =
      if s.writeUnderWay b then s.drainBegun b else State.drainCompute drainFuel (s.drainBegun b) b := by
  unfold State.powerDown
  rw [h]
  rfl

/-- A power-down in which a drain step waits: the bay has made the update of the first step (R31, R32). -/
theorem State.powerDown_steps {s : State} {b : BayId} {st : SeqStep} (h : (s.bay b).slot.runs .powerOn = false)
    (hw : s.writeUnderWay b = false) (hc : drainCase (s.bay b).confirmedImage = some st)
    (hg : (s.bay b).reached ((s.bay b).drainGen st) = false) :
    s.powerDown b = (s.drainBegun b).drainStep b st := by
  rw [State.powerDown_eq h, hw]
  refine State.drainCompute_waits ?_ ?_ drainFuel <;> rw [State.drainBegun_bay]
  · exact hc
  · exact hg

/-- A power-down with nothing to switch off (R31, R32). -/
theorem State.powerDown_done {s : State} {b : BayId} (h : (s.bay b).slot.runs .powerOn = false)
    (hw : s.writeUnderWay b = false) (hc : drainCase (s.bay b).confirmedImage = none) :
    s.powerDown b = (s.drainBegun b).drainDone b := by
  rw [State.powerDown_eq h, hw]
  exact State.drainCompute_done (by rw [State.drainBegun_bay]; exact hc) drainFuel

/-! ## The expiry of DRAIN_STEP (R33) -/

theorem Bay.confirmedImage_of_some {x : Bay} {w : Written} (h : x.confirmed = some w) : x.confirmedImage = w.image := by
  unfold Bay.confirmedImage
  rw [h]

/-- Settles O35: the expiry goes on with the computation from the confirmed image. -/
theorem drainStepExpiry : Obligations.DrainStepExpiry := by
  intro b w s hr x ht hp hconf
  obtain ⟨s', hs'⟩ : ∃ s', s' = s.modifyBay b fun x => { x with timer := none } := ⟨_, rfl⟩
  obtain ⟨t, hexec, ha⟩ : ∃ t, exec (.drainStepExpiry b) s = .next t ∧
      t.AnswersAs (State.drainCompute drainFuel s' b) := by
    rw [hs']; exact State.expiry_answers hr ht hp _
  have hbay : s'.bay b = { x with timer := none } := by rw [hs']; exact s.modifyBay_bay_self b _
  have himage : x.confirmedImage = w.image := Bay.confirmedImage_of_some hconf
  have htells : s'.TellsAs s := by rw [hs']; exact s.modifyBay_tells b _
  have helse : s.SameElsewhere t b := ha.sameElsewhere
    ⟨fun c hc => by rw [State.drainCompute_bay_ne _ _ _ _ hc, hs', State.modifyBay_bay_ne _ _ _ _ hc],
      fun m hm => by rw [State.drainCompute_engine_ne _ _ _ _ hm, hs']; rfl⟩
  have hshell : t.shell = s.shell := by rw [ha.shell, State.drainCompute_shell, hs']; rfl
  refine ⟨fun st hcase hg => ⟨t, hexec, ?_⟩, fun hcase => ⟨t, hexec, ?_⟩⟩
  · rw [← himage] at hcase hg ⊢
    rw [State.drainCompute_waits (st := st) (by rw [hbay]; exact hcase) (by rw [hbay]; exact hg)] at ha
    have hstep := (ha.bay b).trans (s'.drainStep_bay b st)
    have hevents := (ha.tells.trans ((s'.drainStep_tells b st).trans htells)).events
    rw [hbay] at hstep
    rw [hstep]
    exact ⟨hp, rfl, rfl, rfl, drainUpdate_pwrEn _ _ _ st, drainUpdate_clkEn _ _ _ st, drainUpdate_released _ _ _ st,
      fun hauto => drainUpdate_indP hauto _ _ st, hevents, helse, hshell⟩
  · rw [← himage] at hcase
    rw [State.drainCompute_done (by rw [hbay]; exact hcase)] at ha
    have hkept := s'.drainDone_keptByCooldown b
    rw [← ha.bay, hbay] at hkept
    have hcools : s'.CoolsAs s b := ⟨htells, by rw [hbay]; rfl, by rw [hs']; rfl, by rw [hs']; rfl⟩
    exact ⟨ha.coolEntered (hcools.coolEntered (s'.drainDone_entered b)), hkept.target, helse, hshell⟩

end Sys2Proof.Machine

/-! # POWER_OFF (R39, R63) -/

namespace Sys2Proof.Machine

/-! ## A POWER_OFF in the slot -/

/-- A POWER_OFF that has taken the slot, a POWER_ON in progress ended ABORTED and its held power-up withdrawn (R39,
R58). -/
def State.offTaken (s : State) (b : BayId) (tag : Byte) : State :=
  (s.modifyBay b fun y =>
    { y with slot := Slot.holding .powerOff tag none,
             pendingUp := if (s.bay b).slot.runs .powerOn then false else y.pendingUp }).enqueueAll (.bay b)
    (if (s.bay b).slot.runs .powerOn then [.command .powerOn (s.bay b).slot.tag .aborted] else [])

@[simp] theorem State.offTaken_bay (s : State) (b : BayId) (tag : Byte) :
    (s.offTaken b tag).bay b = { s.bay b with
      slot := Slot.holding .powerOff tag none,
      pendingUp := if (s.bay b).slot.runs .powerOn then false else (s.bay b).pendingUp } := by
  rw [State.offTaken, State.enqueueAll_bay, State.modifyBay_bay_self]

theorem State.offTaken_engines (s : State) (b : BayId) (tag : Byte) : (s.offTaken b tag).engines = s.engines := by
  rw [State.offTaken, State.enqueueAll_engines, State.modifyBay_engines]

theorem State.offTaken_engine (s : State) (b : BayId) (tag : Byte) (m : BusId) :
    (s.offTaken b tag).engine m = s.engine m := by
  rw [State.engine, State.offTaken_engines]; rfl

theorem State.offTaken_tells (s : State) (b : BayId) (tag : Byte) :
    (s.offTaken b tag).TellsAs (s.enqueueAll (.bay b)
      (if (s.bay b).slot.runs .powerOn then [.command .powerOn (s.bay b).slot.tag .aborted] else [])) :=
  (s.modifyBay_tells b _).enqueueAll _ _

/-- The port's frame is nothing to the entry into COOL. -/
theorem State.offTaken_coolsAs (s : State) (a : Addr) (b : BayId) (tag : Byte) :
    ((s.afterWord a).offTaken b tag).CoolsAs (s.offTaken b tag) b := by
  have hshell : ∀ u : State, (u.offTaken b tag).shell = u.shell := fun u => by
    rw [State.offTaken, State.enqueueAll_shell, State.modifyBay_shell]
  refine ⟨?_, ?_, ?_, ?_⟩
  · rw [State.offTaken, State.offTaken, State.afterWord_bay]
    refine State.TellsAs.enqueueAll ?_ _ _
    exact ⟨rfl, rfl, rfl⟩
  · rw [State.offTaken_bay, State.offTaken_bay]; rfl
  · exact (congrArg Shell.profiles (hshell (s.afterWord a))).trans (congrArg Shell.profiles (hshell s)).symm
  · exact (congrArg Shell.classMap (hshell (s.afterWord a))).trans (congrArg Shell.classMap (hshell s)).symm

theorem State.offTaken_of_idle {s : State} {b : BayId} (h : (s.bay b).slot.runs .powerOn = false) (tag : Byte) :
    s.offTaken b tag = s.takeSlot b .powerOff tag := by
  rw [State.offTaken, h]
  rfl

/-- A POWER_OFF word on a free slot, or over a POWER_ON in progress, is accepted (R51, R54, R58). -/
theorem State.takeCommand_powerOff {s : State} {b : BayId} (hl : (s.bay b).link = .bound)
    (hs : (s.bay b).slot.inProgress = false ∨ (s.bay b).slot.runs .powerOn = true) (tag : Byte) :
    s.takeCommand b .powerOff tag noArgs =
      (s.offTaken b tag).powerOffEffect b ((s.bay b).slot.runs .powerOn) := by
  rcases hs with hi | hruns
  · rw [State.takeCommand_idle hl hi rfl, State.offTaken_of_idle (Slot.runs_of_idle hi _), Slot.runs_of_idle hi]
    rfl
  · have hcheck : s.commandCheck b .powerOff noArgs = none := by
      rw [State.commandCheck_noArgs hl (by simp [Slot.blocks, (Slot.runs_iff.mp hruns).2])]
      rfl
    have hover : s.overtakePowerOn b = (s.modifyBay b fun x => { x with
        pendingUp := false, slot := Slot.ended .powerOn x.slot.tag .aborted }).enqueue (.bay b)
        (.command .powerOn (s.bay b).slot.tag .aborted) := by
      rw [State.overtakePowerOn, if_pos hruns,
        State.completeCommand_of_runs (c := .powerOn) (by rw [State.modifyBay_bay_self]; exact hruns),
        State.modifyBay_modifyBay, State.modifyBay_bay_self]
    have htaken : (s.overtakePowerOn b).takeSlot b .powerOff tag = s.offTaken b tag := by
      rw [hover, State.takeSlot_eq, State.enqueue_modifyBay, State.modifyBay_modifyBay, State.offTaken, hruns]
      rfl
    rw [State.takeCommand, hcheck, ← htaken]
    rfl

/-! ## Its effect by power state (R39) -/

/-- The POWER_OFF in the slot ends DONE. -/
def State.offDone (s : State) (b : BayId) (tag : Byte) : State :=
  ((s.offTaken b tag).modifyBay b fun x => { x with slot := Slot.ended .powerOff tag .done }).enqueue (.bay b)
    (.command .powerOff tag .done)

theorem State.completeCommand_offTaken (s : State) (b : BayId) (tag : Byte) :
    (s.offTaken b tag).completeCommand b .done = s.offDone b tag := by
  rw [State.completeCommand_of_runs (c := .powerOff) (by rw [State.offTaken_bay]; exact Slot.holding_runs _ _ _ _),
    State.offTaken_bay, State.offDone]
  refine congrArg (fun u : State => u.enqueue (.bay b) _) (State.modifyBay_congr ?_)
  rw [State.offTaken_bay]
  rfl

@[simp] theorem State.offDone_bay (s : State) (b : BayId) (tag : Byte) :
    (s.offDone b tag).bay b = { s.bay b with
      slot := Slot.ended .powerOff tag .done,
      pendingUp := if (s.bay b).slot.runs .powerOn then false else (s.bay b).pendingUp } := by
  rw [State.offDone, State.enqueue_bay, State.modifyBay_bay_self, State.offTaken_bay]

theorem State.offDone_engines (s : State) (b : BayId) (tag : Byte) : (s.offDone b tag).engines = s.engines := by
  rw [State.offDone, State.enqueue_engines, State.modifyBay_engines, State.offTaken_engines]

theorem State.offDone_tells (s : State) (b : BayId) (tag : Byte) :
    (s.offDone b tag).TellsAs (s.enqueueAll (.bay b)
      ((if (s.bay b).slot.runs .powerOn then [.command .powerOn (s.bay b).slot.tag .aborted] else []) ++
        [.command .powerOff tag .done])) := by
  rw [State.enqueueAll_append]
  exact ((State.modifyBay_tells _ b _).trans (s.offTaken_tells b tag)).enqueue _ _

/-- A POWER_OFF in FAULTED whose awaited generation is reached ends DONE at once (R39, R60). -/
theorem State.await_offTaken {s : State} {b : BayId} {g : Half} (hg : (s.bay b).reached g = true) (tag : Byte) :
    (s.offTaken b tag).await b (some g) = s.offDone b tag := by
  obtain ⟨u, hu⟩ : ∃ u, u = (s.offTaken b tag).modifyBay b fun x =>
      { x with slot := { x.slot with awaited := some g } } :=
    ⟨_, rfl⟩
  have hslot : (u.bay b).slot = Slot.holding .powerOff tag (some g) := by
    rw [hu, State.modifyBay_bay_self, State.offTaken_bay]; rfl
  have hreached : (u.bay b).reached g = true := by
    rw [hu, State.modifyBay_bay_self, State.offTaken_bay]; exact hg
  rw [State.await, ← hu, State.awaitedTest_done hslot hreached (by decide),
    State.completeCommand_of_runs (c := .powerOff) (by rw [hslot]; exact Slot.holding_runs _ _ _ _), hslot, hu,
    State.modifyBay_modifyBay, State.offDone]
  refine congrArg (fun v : State => v.enqueue (.bay b) _) (State.modifyBay_congr ?_)
  rw [State.offTaken_bay]
  rfl

section OffEffect

variable {s : State} {b : BayId}

theorem State.powerOffEffect_resting (h : (s.bay b).power = .off ∨ (s.bay b).power = .cool) (held : Bool) :
    s.powerOffEffect b held = s.completeCommand b .done := by
  unfold State.powerOffEffect
  rcases h with h | h <;> rw [h]

theorem State.powerOffEffect_drain (h : (s.bay b).power = .drain) (held : Bool) :
    s.powerOffEffect b held = if held then s.completeCommand b .done else s := by
  unfold State.powerOffEffect
  rw [h]

theorem State.powerOffEffect_faulted (h : (s.bay b).power = .faulted) (held : Bool) :
    s.powerOffEffect b held = s.await b (s.bay b).stepGen := by
  unfold State.powerOffEffect
  rw [h]

theorem State.powerOffEffect_powered
    (h : (s.bay b).power = .ramp ∨ (s.bay b).power = .clock ∨ (s.bay b).power = .on) (held : Bool) :
    s.powerOffEffect b held = s.powerDown b := by
  unfold State.powerOffEffect
  rcases h with h | h | h <;> rw [h]

end OffEffect

/-- Settles O31: the rows of R39. -/
theorem powerOffAccepted : Obligations.PowerOffAccepted := by
  intro b tag s ht x s₀ hl
  obtain ⟨s', hs'⟩ : ∃ s', s' = s₀ := ⟨_, rfl⟩
  have hx : s'.bay b = x := by rw [hs']; rfl
  have htells : s'.TellsAs s := by rw [hs']; exact ⟨rfl, rfl, rfl⟩
  have hengines : s'.engines = s.engines := by rw [hs']; rfl
  obtain ⟨t, hexec, ha⟩ := exec_bayCommand_answers ht .powerOff tag noArgs
  obtain ⟨helse, hshell⟩ := s.takeCommand_frame b .powerOff tag noArgs
  replace helse := ha.sameElsewhere helse
  replace hshell : t.shell = s'.shell := by rw [hs']; exact ha.shell.trans hshell
  have htaken := State.takeCommand_powerOff (s := s') (b := b) (by rw [hx]; exact hl) (tag := tag)
  have hoff := s'.offTaken_bay b tag
  rw [hx] at htaken hoff
  have hquiet : ∀ u : State, s'.takeCommand b .powerOff tag noArgs = u → u.events = s.events →
      exec (.powerOff b tag noArgs) s = .next u := fun u hu he =>
    exec_bayCommand_quiet ht .powerOff tag noArgs (by rw [← hu, hs']) he
  have hunder : (s'.offTaken b tag).writeUnderWay b = s.writeUnderWay b :=
    State.writeUnderWay_of_engine (by rw [State.offTaken_engine, hs']; rfl)
  have htold : (if x.slot.runs .powerOn = true then s.enqueue (.bay b) (.command .powerOn x.slot.tag .aborted)
      else s).events = (s'.offTaken b tag).events := by
    have h := (s'.offTaken_tells b tag).trans (htells.enqueueAll _ _)
    rw [hx] at h
    rw [h.events]
    split <;> rfl
  have hdone : t.AnswersAs (s'.offDone b tag) →
      t.bay b = { x with
        slot := Slot.ended .powerOff tag .done, pendingUp := if x.slot.runs .powerOn then false else x.pendingUp } ∧
      t.events = (s.enqueueAll (.bay b) (
        (if x.slot.runs .powerOn then [.command .powerOn x.slot.tag .aborted] else []) ++
        [.command .powerOff tag .done])).events ∧ t.engines = s.engines := fun h => by
    have htold := h.tells.trans ((s'.offDone_tells b tag).trans (htells.enqueueAll _ _))
    rw [hx] at htold
    exact ⟨by rw [h.bay, State.offDone_bay, hx], htold.events, by rw [h.engines, State.offDone_engines, hengines]⟩
  change t.AnswersAs (s₀.takeCommand b .powerOff tag noArgs) at ha
  rw [← hs'] at ha ⊢
  refine ⟨fun hi hp => ⟨t, hexec, ?_⟩, fun hi hp => ?_, fun hruns hp => ⟨t, hexec, ?_⟩, fun hi hp g hg hr => ?_,
    fun hs hp hw => ⟨t, hexec, ?_⟩, fun hi hp g hg hr => ⟨t, hexec, ?_⟩, fun hs hp hw st hc hg => ⟨t, hexec, ?_⟩,
    fun hs hp hw hc => ⟨t, hexec, ?_⟩⟩
  · rw [htaken (.inl hi), State.powerOffEffect_resting (by rw [hoff]; exact hp), State.completeCommand_offTaken] at ha
    obtain ⟨hbay, hevents, heng⟩ := hdone ha
    rw [Slot.runs_of_idle hi] at hbay hevents
    exact ⟨hbay, hevents, heng, helse, hshell⟩
  · refine hquiet _ ?_ (by rw [hs']; rfl)
    rw [htaken (.inl hi), State.powerOffEffect_drain (by rw [hoff]; exact hp), Slot.runs_of_idle hi,
      State.offTaken_of_idle (by rw [hx]; exact Slot.runs_of_idle hi _)]
    rfl
  · have heffect : s'.takeCommand b .powerOff tag noArgs = s'.offDone b tag := by
      rw [htaken (.inr hruns), hruns, ← State.completeCommand_offTaken]
      rcases hp with hp | hp
      · exact State.powerOffEffect_resting (by rw [hoff]; exact .inr hp) true
      · exact State.powerOffEffect_drain (by rw [hoff]; exact hp) true
    rw [heffect] at ha
    obtain ⟨hbay, hevents, heng⟩ := hdone ha
    rw [hruns] at hbay hevents
    exact ⟨hbay, hevents, heng, helse, hshell⟩
  · refine hquiet _ ?_ (by rw [hs']; rfl)
    rw [htaken (.inl hi), State.powerOffEffect_faulted (by rw [hoff]; exact hp), hoff, hg,
      State.offTaken_of_idle (by rw [hx]; exact Slot.runs_of_idle hi _), State.takeSlot_await,
      State.awaitedTest_waits (by rw [State.modifyBay_bay_self]) (by rw [State.modifyBay_bay_self, hx]; exact hr)]
  · rw [htaken hs, State.powerOffEffect_powered (by rw [hoff]; exact hp), State.powerDown_eq (by rw [hoff]; rfl),
      hunder, hw] at ha
    replace ha : t.AnswersAs ((s'.offTaken b tag).drainBegun b) := ha
    refine ⟨by rw [ha.bay, State.drainBegun_bay, hoff], ?_, ?_, helse, hshell⟩
    · rw [htold, (ha.tells.trans (State.drainBegun_tells _ b)).events]
    · rw [ha.engines]
      exact (s'.offTaken_engines b tag).trans hengines
  · rw [htaken (.inl hi), State.powerOffEffect_faulted (by rw [hoff]; exact hp), hoff, hg,
      State.await_offTaken (by rw [hx]; exact hr)] at ha
    obtain ⟨hbay, hevents, heng⟩ := hdone ha
    rw [Slot.runs_of_idle hi] at hbay hevents
    exact ⟨hbay, hevents, heng, helse, hshell⟩
  · rw [htaken hs, State.powerOffEffect_powered (by rw [hoff]; exact hp),
      State.powerDown_steps (st := st) (by rw [hoff]; rfl) (hunder.trans hw) (by rw [hoff]; exact hc)
        (by rw [hoff]; exact hg)] at ha
    have hstep := (ha.bay b).trans (State.drainStep_bay _ b st)
    rw [State.drainBegun_bay, hoff] at hstep
    rw [hstep]
    refine ⟨rfl, rfl, rfl, rfl, drainUpdate_pwrEn _ _ _ st, drainUpdate_clkEn _ _ _ st, drainUpdate_released _ _ _ st,
      rfl, ?_, helse, hshell⟩
    rw [htold, (ha.tells.trans ((State.drainStep_tells _ b st).trans (State.drainBegun_tells _ b))).events]
  · rw [htaken hs, State.powerOffEffect_powered (by rw [hoff]; exact hp),
      State.powerDown_done (by rw [hoff]; rfl) (hunder.trans hw) (by rw [hoff]; exact hc)] at ha
    have hcools' : (s'.offTaken b tag).CoolsAs (s.offTaken b tag) b := by rw [hs']; exact s.offTaken_coolsAs _ b tag
    have hcools := ((s'.offTaken b tag).drainBegun_coolsAs b).trans hcools'
    exact ⟨ha.coolEntered (hcools.coolEntered (State.drainDone_entered _ b)), helse, hshell⟩

end Sys2Proof.Machine

/-! # The expiries of RAMP and CLOCK, and faults (R26 to R28, R43) -/

namespace Sys2Proof.Machine

/-! ## The clock and the release update (R26, R28) -/

theorem releaseUpdate_eq (c : BayConfig) (i : Image) :
    releaseUpdate c i = { i with released := true, indP := if c.autoInd then .on else i.indP } := by
  unfold releaseUpdate Image.autoInd
  split <;> rfl

/-- A bay in CLOCK that waits for its clock update's write (R26). -/
def State.clockBegun (s : State) (b : BayId) : State :=
  (s.updateTarget b clockUpdate false).modifyBay b fun x =>
    { x with power := .clock, timer := none, stepGen := some x.targetGen }

theorem State.clockBegun_bay {s : State} {b : BayId} (hc : (s.bay b).target.clkEn = false) :
    (s.clockBegun b).bay b = { s.bay b with
      power := .clock, timer := none, target := { (s.bay b).target with clkEn := true },
      targetGen := (s.bay b).targetGen + 1, stepGen := some ((s.bay b).targetGen + 1) } := by
  have hne : clockUpdate (s.bay b).target ≠ (s.bay b).target := fun h => by
    have hclk : true = (s.bay b).target.clkEn := congrArg Image.clkEn h
    rw [hc] at hclk
    cases hclk
  rw [State.clockBegun, State.modifyBay_bay_self, State.updateTarget_bay_of_ne hne]
  rfl

theorem State.clockBegun_tells (s : State) (b : BayId) : (s.clockBegun b).TellsAs s :=
  .trans (State.modifyBay_tells _ b _) (s.updateTarget_tells b _ _)

/-- The end of a ramp whose clock update is still to be written (R26). -/
theorem State.endOfRamp_waits {s : State} {b : BayId} (hc : (s.bay b).target.clkEn = false)
    (hg : (s.bay b).reached ((s.bay b).targetGen + 1) = false) : s.endOfRamp b = s.clockBegun b := by
  have hwait : ((s.clockBegun b).bay b).stepReached = false := by rw [State.clockBegun_bay hc]; exact hg
  exact if_neg (by rw [State.clockBegun] at hwait; rw [hwait]; exact Bool.false_ne_true)

/-- A bay in CLOCK that waits for its release update's write (R28). -/
def State.releaseBegun (s : State) (b : BayId) : State :=
  (s.updateTarget b (releaseUpdate (s.bay b).config) false).modifyBay b fun x =>
    { x with timer := none, stepGen := some x.targetGen }

theorem State.releaseBegun_bay {s : State} {b : BayId} (hr : (s.bay b).target.released = false) :
    (s.releaseBegun b).bay b = { s.bay b with
      timer := none, target := releaseUpdate (s.bay b).config (s.bay b).target,
      targetGen := (s.bay b).targetGen + 1, stepGen := some ((s.bay b).targetGen + 1) } := by
  have hne : releaseUpdate (s.bay b).config (s.bay b).target ≠ (s.bay b).target := fun h => by
    have hrel : true = (s.bay b).target.released := by rw [releaseUpdate_eq] at h; exact congrArg Image.released h
    rw [hr] at hrel
    cases hrel
  rw [State.releaseBegun, State.modifyBay_bay_self, State.updateTarget_bay_of_ne hne]

theorem State.releaseBegun_tells (s : State) (b : BayId) : (s.releaseBegun b).TellsAs s :=
  .trans (State.modifyBay_tells _ b _) (s.updateTarget_tells b _ _)

/-- The release of the reset, its update still to be written (R28). -/
theorem State.releaseReset_waits {s : State} {b : BayId} (hr : (s.bay b).target.released = false)
    (hg : (s.bay b).reached ((s.bay b).targetGen + 1) = false) : s.releaseReset b = s.releaseBegun b := by
  have hwait : ((s.releaseBegun b).bay b).stepReached = false := by rw [State.releaseBegun_bay hr]; exact hg
  exact if_neg (by rw [State.releaseBegun] at hwait; rw [hwait]; exact Bool.false_ne_true)

/-! ## A fault (R43) -/

theorem faultUpdate_eq (c : BayConfig) (i : Image) :
    faultUpdate c i = { i with
      pwrEn := false, clkEn := false, released := false, indP := if c.autoInd then .fast else i.indP } := by
  unfold faultUpdate Image.autoInd Image.powerOff
  split <;> rfl

/-- A power command that a fault ends (R43). -/
def Slot.powers (sl : Slot) : Bool := sl.runs .powerOn || sl.runs .powerOff

/-- The bay once a fault has been taken, its command apart (R43). -/
def Bay.faulted (x : Bay) (kind : FaultKind) : Bay :=
  let g := if faultUpdate x.config x.target = x.target then x.targetGen else x.targetGen + 1
  { x with
    target := faultUpdate x.config x.target, targetGen := g, timer := none, step := none, stepGen := some g,
    power := .faulted, faultKind := if x.faultKind = .noFault then kind else x.faultKind,
    faultCount := satInc x.faultCount, pendingUp := false }

/-- The state once a fault has been taken, its records apart (R43). -/
def State.faultBegun (s : State) (b : BayId) (kind : FaultKind) : State :=
  (s.updateTarget b (faultUpdate (s.bay b).config) true).modifyBay b fun x =>
    { x with timer := none, step := none, stepGen := some x.targetGen, power := .faulted,
             faultKind := if x.faultKind = .noFault then kind else x.faultKind,
             faultCount := satInc x.faultCount, pendingUp := false }

theorem State.faultBegun_bay (s : State) (b : BayId) (kind : FaultKind) :
    (s.faultBegun b kind).bay b = (s.bay b).faulted kind := by
  rw [State.faultBegun, State.modifyBay_bay_self, State.updateTarget_bay]
  rfl

theorem State.faultBegun_tells (s : State) (b : BayId) (kind : FaultKind) : (s.faultBegun b kind).TellsAs s :=
  .trans (State.modifyBay_tells _ b _) (s.updateTarget_tells b _ _)

/-- The records of a fault (R43, R48). -/
def faultDetails (kind : FaultKind) : List Detail := [.fault kind, .state .faulted .fault]

/-- A fault that finds no power command in progress (R43). -/
theorem State.takeFault_idle {s : State} {b : BayId} (h : (s.bay b).slot.powers = false) (kind : FaultKind) :
    s.takeFault b kind = (s.faultBegun b kind).enqueueAll (.bay b) (faultDetails kind) := by
  have hslot : ((s.faultBegun b kind).bay b).slot.powers = false := by rw [State.faultBegun_bay]; exact h
  have hunfold : s.takeFault b kind =
      (if ((s.faultBegun b kind).bay b).slot.powers then (s.faultBegun b kind).completeCommand b .fault
        else s.faultBegun b kind).enqueueAll (.bay b) (faultDetails kind) := rfl
  rw [hunfold, hslot]
  rfl

/-- A fault ends the power command in progress with FAULT (R43). -/
theorem State.takeFault_ends {s : State} {b : BayId} {c : BayCommand} (hc : c = .powerOn ∨ c = .powerOff)
    (h : (s.bay b).slot.runs c = true) (kind : FaultKind) :
    s.takeFault b kind =
      (((s.faultBegun b kind).modifyBay b fun x => { x with slot := Slot.ended c x.slot.tag .fault }).enqueueAll (.bay b)
        (.command c (s.bay b).slot.tag .fault :: faultDetails kind)) := by
  have hruns : ((s.faultBegun b kind).bay b).slot.runs c = true := by rw [State.faultBegun_bay]; exact h
  have hslot : ((s.faultBegun b kind).bay b).slot.powers = true := by
    unfold Slot.powers
    rcases hc with rfl | rfl <;> simp [hruns]
  have hunfold : s.takeFault b kind =
      (if ((s.faultBegun b kind).bay b).slot.powers then (s.faultBegun b kind).completeCommand b .fault
        else s.faultBegun b kind).enqueueAll (.bay b) (faultDetails kind) := rfl
  rw [hunfold, hslot, State.completeCommand_of_runs hruns, State.faultBegun_bay]
  rfl

/-- Whatever its records, a fault leaves the bay as `Bay.faulted` says, but for its command slot (R43). -/
theorem State.takeFault_bay (s : State) (b : BayId) (kind : FaultKind) :
    ∃ sl, (s.takeFault b kind).bay b = { (s.bay b).faulted kind with slot := sl } := by
  unfold State.takeFault
  rw [State.enqueue_bay, State.enqueue_bay, ← State.faultBegun_bay]
  split
  · exact State.completeCommand_slot _ b .fault
  · exact ⟨_, rfl⟩

theorem State.takeFault_engine (s : State) (b : BayId) (kind : FaultKind) (m : BusId) :
    (s.takeFault b kind).engine m = (s.updateTarget b (faultUpdate (s.bay b).config) true).engine m := by
  unfold State.takeFault
  rw [State.enqueue_engine, State.enqueue_engine]
  split
  · rw [State.engine, State.completeCommand_engines]; rfl
  · rfl

/-- An urgent output write of bay `b` is among `q`. -/
def HasUrgentWrite (q : List Entry) (b : BayId) : Prop :=
  ∃ e ∈ q, e.kind = .outputWrite ∧ e.bay = b ∧ e.urgent = true

theorem hasUrgentWrite_queueWrite (q : List Entry) (b : BayId) : HasUrgentWrite (queueWrite q b true) b := by
  unfold queueWrite
  split
  · next h =>
    obtain ⟨e, he, hw⟩ := List.any_eq_true.mp h
    obtain ⟨hk, hb⟩ : e.kind = .outputWrite ∧ e.bay = b := by simpa [Entry.isWrite] using hw
    exact ⟨_, List.mem_map.mpr ⟨e, he, rfl⟩, by simp [hw, hk], by simp [hw, hb], by simp [hw]⟩
  · exact ⟨_, List.mem_append_right _ (List.mem_singleton_self _), rfl, rfl, rfl⟩

/-- The write of a fault's update is urgent (R43, R110). -/
theorem State.takeFault_hasUrgentWrite {s : State} {b : BayId} {kind : FaultKind}
    (h : ((s.bay b).faulted kind).target ≠ (s.bay b).target) (hl : (s.bay b).link = .bound)
    (ht : (s.engine (busOf b)).takes = true) :
    HasUrgentWrite ((s.takeFault b kind).engine (busOf b)).queue b := by
  rw [State.takeFault_engine, State.updateTarget_queue h hl ht]
  exact hasUrgentWrite_queueWrite _ b

theorem Bay.faulted_count (x : Bay) (kind : FaultKind) :
    (x.faulted kind).faultCount = if x.faultCount = 255 then 255 else x.faultCount + 1 := by
  unfold Bay.faulted satInc
  dsimp only
  split
  · next h => exact h
  · rfl

/-- The records of a fault, and of the power command it ends (R43, R48). -/
theorem State.takeFault_told_idle {s : State} {b : BayId} (h : (s.bay b).slot.inProgress = false) (kind : FaultKind) :
    (s.takeFault b kind).TellsAs (s.enqueueAll (.bay b) (faultDetails kind)) ∧
      ((s.takeFault b kind).bay b).slot = (s.bay b).slot := by
  have hpowers : (s.bay b).slot.powers = false := by simp [Slot.powers, Slot.runs_of_idle h]
  rw [State.takeFault_idle hpowers, State.enqueueAll_bay, State.faultBegun_bay]
  exact ⟨(s.faultBegun_tells b kind).enqueueAll _ _, rfl⟩

theorem State.takeFault_told_ends {s : State} {b : BayId} {c : BayCommand} (hc : c = .powerOn ∨ c = .powerOff)
    (h : (s.bay b).slot.runs c = true) (kind : FaultKind) :
    (s.takeFault b kind).TellsAs
        (s.enqueueAll (.bay b) (.command c (s.bay b).slot.tag .fault :: faultDetails kind)) ∧
      ((s.takeFault b kind).bay b).slot = Slot.ended c (s.bay b).slot.tag .fault := by
  rw [State.takeFault_ends hc h, State.enqueueAll_bay, State.modifyBay_bay_self, State.faultBegun_bay]
  exact ⟨((State.modifyBay_tells _ b _).trans (s.faultBegun_tells b kind)).enqueueAll _ _, rfl⟩

/-- An expiry that tells nothing answers the state its rules give. -/
theorem State.expiry_quiet {s : State} {b : BayId} {p : SeqPurpose} {w : PowerState} (hr : s.resetLow = false)
    (ht : (s.bay b).timer = some { purpose := p, left := 0 }) (hp : (s.bay b).power = w) {u : State}
    (he : u.events = s.events) : s.event (if s.timerDue b p && (s.bay b).power = w then u else s) = .next u := by
  rw [if_pos (by simp [State.timerDue, ht, hp])]
  exact State.event_quiet s u hr he

/-- Settles O34: the three expiries of a power-up. -/
theorem rampAndClockExpiries : Obligations.RampAndClockExpiries := by
  intro b s hr x
  refine ⟨fun ht hp hc hg => ?_, fun ht hp hrel hg => ?_, fun ht hp hpwr => ?_⟩
  · have hres := State.endOfRamp_waits hc hg
    have hevents : (s.endOfRamp b).events = s.events := by rw [hres]; exact (s.clockBegun_tells b).events
    refine ⟨_, State.expiry_quiet hr ht hp hevents, by rw [hres]; exact State.clockBegun_bay hc, hevents,
      ⟨fun c hc => s.endOfRamp_bay_ne b c hc, fun m hm => s.endOfRamp_engine_ne b m hm⟩, s.endOfRamp_shell b, ?_⟩
    rw [hres, State.clockBegun, State.modifyBay_lines, State.updateTarget_lines]
  · have hres := State.releaseReset_waits hrel hg
    have hevents : (s.releaseReset b).events = s.events := by rw [hres]; exact (s.releaseBegun_tells b).events
    refine ⟨_, State.expiry_quiet hr ht hp hevents, ?_, hevents,
      ⟨fun c hc => s.releaseReset_bay_ne b c hc, fun m hm => s.releaseReset_engine_ne b m hm⟩,
      s.releaseReset_shell b, ?_⟩
    · rw [hres, State.releaseBegun_bay hrel, releaseUpdate_eq]
    · rw [hres, State.releaseBegun, State.modifyBay_lines, State.updateTarget_lines]
  · obtain ⟨t, hexec, ha⟩ := State.expiry_answers hr ht hp (s.takeFault b .rampTimeout)
    obtain ⟨sl, hbay⟩ := s.takeFault_bay b .rampTimeout
    have hne : faultUpdate x.config x.target ≠ x.target := fun h => by
      rw [faultUpdate_eq] at h
      have hoff : false = x.target.pwrEn := congrArg Image.pwrEn h
      rw [hpwr] at hoff
      cases hoff
    have hgen : (x.faulted .rampTimeout).targetGen = x.targetGen + 1 := if_neg hne
    have hstep : (x.faulted .rampTimeout).stepGen = some (x.targetGen + 1) := congrArg some hgen
    refine ⟨t, hexec, ?_⟩
    have hslot : sl = ((s.takeFault b .rampTimeout).bay b).slot := by rw [hbay]
    rw [← ha.bay] at hbay
    rw [hbay]
    refine ⟨rfl, rfl, rfl, rfl, faultUpdate_eq _ _, hgen, hstep, rfl, rfl, fun hk => if_pos hk,
      x.faulted_count .rampTimeout,
      fun hl htakes => ?_, fun hruns => ?_, fun hi => ?_,
      ha.sameElsewhere ⟨fun c hc => s.takeFault_bay_ne b _ c hc, fun m hm => s.takeFault_engine_ne b _ m hm⟩,
      ha.shell.trans (s.takeFault_shell b _)⟩
    · rw [ha.engine]
      exact State.takeFault_hasUrgentWrite (kind := .rampTimeout) hne hl htakes
    · obtain ⟨htold, hsl⟩ := State.takeFault_told_ends (.inl rfl) hruns .rampTimeout
      exact ⟨hslot.trans hsl, (ha.tells.trans htold).events⟩
    · obtain ⟨htold, hsl⟩ := State.takeFault_told_idle hi .rampTimeout
      exact ⟨hslot.trans hsl, (ha.tells.trans htold).events⟩

end Sys2Proof.Machine

/-! # A completed write and the Sequencer's waits (R22, R25, R28, R29, R116) -/

namespace Sys2Proof.Machine

/-! ## The end of a transaction -/

theorem State.completeTx_onWire {s : State} {n : BusId} {e : Entry} {a : Nat} (h : s.OnWire n e a)
    (handed : State → Entry → State) : s.completeTx n e.kind handed = handed (s.busIdle n) e := by
  unfold State.completeTx
  rw [h.1]
  simp

@[simp] theorem State.busIdle_bay (s : State) (n : BusId) (c : BayId) : (s.busIdle n).bay c = s.bay c := rfl

@[simp] theorem State.busIdle_engine (s : State) (n : BusId) :
    (s.busIdle n).engine n = { s.engine n with bus := .idle } := s.modifyEngine_engine_self n _

theorem State.busIdle_engine_ne (s : State) {n m : BusId} (h : m ≠ n) : (s.busIdle n).engine m = s.engine m :=
  s.modifyEngine_engine_ne n m _ h

theorem State.busIdle_tells (s : State) (n : BusId) : (s.busIdle n).TellsAs s := ⟨rfl, rfl, rfl⟩

/-- The work of a bay after its transaction has ended leaves the other bays and the other bus alone. -/
theorem State.busIdle_sameElsewhere {s t : State} {b : BayId} (h : (s.busIdle (busOf b)).SameElsewhere t b) :
    s.SameElsewhere t b :=
  ⟨h.1, fun m hm => (h.2 m hm).trans (s.busIdle_engine_ne hm)⟩

/-! ## What a completed write confirms (R60, R116) -/

/-- The bay with the carried image confirmed, the command that awaited it ended DONE (R60, R116). -/
def State.written (s : State) (b : BayId) (c : Written) : State :=
  (s.modifyBay b fun x => { x with confirmed := some c, slot := x.slot.afterWrite c }).enqueueAll (.bay b)
    ((s.bay b).slot.writeDetails c)

@[simp] theorem State.written_bay (s : State) (b : BayId) (c : Written) :
    (s.written b c).bay b = { s.bay b with confirmed := some c, slot := (s.bay b).slot.afterWrite c } := by
  rw [State.written, State.enqueueAll_bay, State.modifyBay_bay_self]

@[simp] theorem State.written_engine (s : State) (b : BayId) (c : Written) (m : BusId) :
    (s.written b c).engine m = s.engine m := by
  rw [State.written, State.enqueueAll_engine, State.modifyBay_engine]

@[simp] theorem State.written_shell (s : State) (b : BayId) (c : Written) : (s.written b c).shell = s.shell := by
  rw [State.written, State.enqueueAll_shell, State.modifyBay_shell]

theorem State.written_tells (s : State) (b : BayId) (c : Written) :
    (s.written b c).TellsAs (s.enqueueAll (.bay b) ((s.bay b).slot.writeDetails c)) :=
  (s.modifyBay_tells b _).enqueueAll _ _

/-- A slot whose command, if it awaits a generation, is no CLEAR_FAULT. -/
def Slot.AwaitsOutput (sl : Slot) : Prop :=
  sl.awaited = none ∨ ∃ k tag h, k ≠ .clearFault ∧ sl = Slot.holding k tag (some h)

/-- Such a command ends DONE where the write reaches its generation, and waits on otherwise (R60). -/
theorem State.awaitedTest_written {s : State} {b : BayId} {c : Written} (h : (s.bay b).slot.AwaitsOutput) :
    (s.modifyBay b fun x => { x with confirmed := some c }).awaitedTest b = s.written b c := by
  obtain ⟨u, hu⟩ : ∃ u, u = s.modifyBay b fun x => { x with confirmed := some c } := ⟨_, rfl⟩
  have hubay : u.bay b = { s.bay b with confirmed := some c } := by rw [hu, State.modifyBay_bay_self]
  have hkeeps : (s.bay b).slot.afterWrite c = (s.bay b).slot → (s.bay b).slot.writeDetails c = [] →
      s.written b c = u := fun hsl hd => by
    rw [State.written, hd, State.enqueueAll_nil, hu]
    refine State.modifyBay_congr ?_
    rw [hsl]
  rw [← hu]
  rcases h with hnone | ⟨k, tag, g, hk, hhold⟩
  · rw [hkeeps (Slot.afterWrite_of_awaited_none _ c hnone) (Slot.writeDetails_of_awaited_none _ c hnone)]
    unfold State.awaitedTest
    dsimp only
    rw [show (u.bay b).slot.awaited = none by rw [hubay]; exact hnone]
  · have hslot : (u.bay b).slot = Slot.holding k tag (some g) := by rw [hubay]; exact hhold
    cases hg : genReached (some c) g with
    | false =>
      rw [hkeeps (by rw [hhold, Slot.afterWrite_holding, hg]; rfl) (by rw [hhold, Slot.writeDetails_holding, hg]; rfl)]
      exact State.awaitedTest_waits hslot (by rw [hubay]; exact hg)
    | true =>
      rw [State.awaitedTest_done hslot (by rw [hubay]; exact hg) hk,
        State.completeCommand_of_runs (c := k) (by rw [hslot, Slot.holding_runs]; exact decide_eq_true rfl), hslot, hu,
        State.modifyBay_modifyBay, State.written, hhold, Slot.writeDetails_holding, hg]
      refine congrArg (fun v : State => v.enqueue (.bay b) _) (State.modifyBay_congr ?_)
      dsimp only
      rw [hhold, Slot.afterWrite_holding, hg]
      rfl

/-- The bay `b` of a completed write before the Sequencer's test: its bus idle, and the write's image confirmed
(R116). -/
def State.writeTold (s : State) (b : BayId) (c : Written) : State := (s.busIdle (busOf b)).written b c

@[simp] theorem State.writeTold_bay (s : State) (b : BayId) (c : Written) :
    (s.writeTold b c).bay b = { s.bay b with confirmed := some c, slot := (s.bay b).slot.afterWrite c } :=
  (s.busIdle _).written_bay b c

@[simp] theorem State.writeTold_engine (s : State) (b : BayId) (c : Written) :
    (s.writeTold b c).engine (busOf b) = { s.engine (busOf b) with bus := .idle } := by
  rw [State.writeTold, State.written_engine, State.busIdle_engine]

@[simp] theorem State.writeTold_shell (s : State) (b : BayId) (c : Written) : (s.writeTold b c).shell = s.shell := by
  rw [State.writeTold, State.written_shell, State.busIdle_shell]

theorem State.writeTold_tells (s : State) (b : BayId) (c : Written) :
    (s.writeTold b c).TellsAs (s.enqueueAll (.bay b) ((s.bay b).slot.writeDetails c)) :=
  ((s.busIdle _).written_tells b c).trans ((s.busIdle_tells _).enqueueAll _ _)

theorem State.writeTold_profileOf (s : State) (b : BayId) (c : Written) :
    (s.writeTold b c).profileOf b = s.profileOf b :=
  State.profileOf_of_eq (by rw [State.writeTold_bay]) (s.writeTold_shell b c)

/-- What the completion of a write answers: the image confirmed, then the Sequencer's test (R116). -/
theorem exec_outputWriteComplete {s : State} {n : BusId} {e : Entry} {a : Nat} {c : Written} (hw : s.OnWire n e a)
    (hk : e.kind = .outputWrite) (hc : e.carried = some c) (hn : busOf e.bay = n)
    (hslot : (s.bay e.bay).slot.AwaitsOutput) :
    ∃ t, exec (.outputWriteComplete n) s = .next t ∧ t.AnswersAs ((s.writeTold e.bay c).sequencerTest e.bay) ∧
      s.SameElsewhere t e.bay ∧ t.shell = s.shell := by
  subst hn
  have hdone : (s.busIdle (busOf e.bay)).writeDone e = (s.writeTold e.bay c).sequencerTest e.bay := by
    rw [State.writeTold, State.writeDone, hc, ← State.awaitedTest_written (s := s.busIdle _) hslot]
  have hres : s.completeTx (busOf e.bay) .outputWrite State.writeDone = (s.busIdle (busOf e.bay)).writeDone e := by
    rw [← hk]; exact State.completeTx_onWire hw _
  obtain ⟨t, hexec, ha⟩ := s.event_answers hw.2 (s.completeTx (busOf e.bay) .outputWrite State.writeDone)
  rw [hres, hdone] at ha
  refine ⟨t, hexec, ha, State.busIdle_sameElsewhere (ha.sameElsewhere ⟨fun k hk => ?_, fun m hm => ?_⟩), ?_⟩
  · rw [State.sequencerTest_bay_ne _ _ _ hk, State.writeTold, State.written, State.enqueueAll_bay,
      State.modifyBay_bay_ne _ _ _ _ hk]
  · rw [State.sequencerTest_engine_ne _ _ _ hm, State.writeTold, State.written_engine]
  · rw [ha.shell, State.sequencerTest_shell, State.writeTold_shell]

/-! ## The Sequencer's test (R22) -/

section Test

variable {s : State} {b : BayId}

theorem State.sequencerTest_ramp (hp : (s.bay b).power = .ramp) (ht : (s.bay b).timer = none)
    (hr : (s.bay b).stepReached = true) : s.sequencerTest b = s.rampWaitEnd b := by
  simp [State.sequencerTest, hp, ht, hr]

theorem State.sequencerTest_clock (hp : (s.bay b).power = .clock) (ht : (s.bay b).timer = none)
    (hr : (s.bay b).stepReached = true) :
    s.sequencerTest b = if (s.bay b).target.released then s.enterOn b else s.clockWaitEnd b := by
  simp [State.sequencerTest, hp, ht, hr]

theorem State.sequencerTest_drain_first (hp : (s.bay b).power = .drain) (hs : (s.bay b).step = none) :
    s.sequencerTest b = State.drainCompute drainFuel s b := by
  simp [State.sequencerTest, hp, hs]

theorem State.sequencerTest_drain_step {st : SeqStep} (hp : (s.bay b).power = .drain)
    (hs : (s.bay b).step = some st) (ht : (s.bay b).timer = none) (hr : (s.bay b).stepReached = true) :
    s.sequencerTest b = s.drainWaitEnd b st := by
  simp [State.sequencerTest, hp, hs, ht, hr]

theorem State.rampWaitEnd_fixed (h : (s.profileOf b).rampMode = .fixed) :
    s.rampWaitEnd b = s.startTimer b .rampWait (s.profileOf b).rampTime.toNat := by
  unfold State.rampWaitEnd
  dsimp only
  rw [h]

theorem State.rampWaitEnd_pgood (h : (s.profileOf b).rampMode = .pgood) :
    s.rampWaitEnd b = (s.startTimer b .rampTimeout (s.profileOf b).rampTime.toNat).requestRead b .none := by
  unfold State.rampWaitEnd
  dsimp only
  rw [h]

end Test

theorem Bay.stepReached_of_gen {x : Bay} {c : Written} {g : Half} (hc : x.confirmed = some c) (hg : x.stepGen = some g)
    (h : (c.gen - g).toNat < 32768) : x.stepReached = true := by
  unfold Bay.stepReached Bay.reached genReached
  rw [hc, hg]
  exact decide_eq_true h

/-! ## The entry into ON (R29) -/

/-- The slot once the entry into ON has ended a POWER_ON in progress (R29). -/
def Slot.afterOn (sl : Slot) : Slot := if sl.runs .powerOn then Slot.ended .powerOn sl.tag .done else sl

/-- The records of an entry into ON (R29, R48). -/
def Slot.onDetails (sl : Slot) : List Detail :=
  if sl.runs .powerOn then [.command .powerOn sl.tag .done, .state .on .command] else [.state .on .auto]

theorem State.enterOn_eq (s : State) (b : BayId) :
    s.enterOn b =
      (s.modifyBay b fun x => { x with power := .on, timer := none, stepGen := none, slot := x.slot.afterOn }).enqueueAll
        (.bay b) (s.bay b).slot.onDetails := by
  have hslot : ∀ sl, (s.bay b).slot.afterOn = sl →
      (s.modifyBay b fun x => { x with power := .on, timer := none, stepGen := none, slot := x.slot.afterOn }) =
        s.modifyBay b fun x => { x with power := .on, timer := none, stepGen := none, slot := sl } := fun sl h =>
    State.modifyBay_congr (by rw [h])
  unfold State.enterOn Slot.onDetails
  dsimp only
  split
  · next h =>
    rw [State.completeCommand_of_runs (c := .powerOn) (by rw [State.modifyBay_bay_self]; exact h),
      State.modifyBay_modifyBay, State.modifyBay_bay_self, hslot _ (if_pos h)]
    rfl
  · next h =>
    rw [hslot _ (if_neg h)]
    rfl

theorem Slot.afterWrite_tag (sl : Slot) (c : Written) : (sl.afterWrite c).tag = sl.tag := by
  unfold Slot.afterWrite
  split
  · split <;> rfl
  · rfl

/-! ## The end of a power-up's waits (R25, R28, R29) -/

/-- A read that the end of the ramp wait requests on the idle bus of its bay (R25, R109, R111). -/
theorem State.requestRead_engine (s : State) (b : BayId) (w : Waiters) :
    (s.requestRead b w).engine (busOf b) =
      { s.engine (busOf b) with queue :=
        if (s.bay b).link = .bound ∧ (s.engine (busOf b)).takes = true then queueRead (s.engine (busOf b)).queue b w
        else (s.engine (busOf b)).queue } := by
  unfold State.requestRead
  simp only [Bool.and_eq_true, decide_eq_true_eq]
  split
  · rw [State.modifyEngine_engine_self]
  · rfl

theorem State.requestRead_tells (s : State) (b : BayId) (w : Waiters) : (s.requestRead b w).TellsAs s :=
  .of_shell (s.requestRead_events b w) (s.requestRead_shell b w)

/-- Settles O40: the test of a reached step generation, in RAMP and CLOCK. -/
theorem writeEndsPowerUpWait : Obligations.WriteEndsPowerUpWait := by
  intro n e a c g s hw hk hc hn x p slot answers hslot htimer hg hreach
  obtain ⟨t, hexec, ha, helse, hshell⟩ := exec_outputWriteComplete hw hk hc hn hslot
  subst hn
  obtain ⟨u, hu⟩ : ∃ u, u = s.writeTold e.bay c := ⟨_, rfl⟩
  have hubay : u.bay e.bay = { x with confirmed := some c, slot := slot } := by rw [hu, State.writeTold_bay]
  have hueng : u.engine (busOf e.bay) = { s.engine (busOf e.bay) with bus := .idle } := by
    rw [hu, State.writeTold_engine]
  have huprofile : u.profileOf e.bay = p := by rw [hu, State.writeTold_profileOf]
  have hustep : (u.bay e.bay).stepReached = true :=
    Bay.stepReached_of_gen (by rw [hubay]) (by rw [hubay]; exact hg) hreach
  have hutimer : (u.bay e.bay).timer = none := by rw [hubay]; exact htimer
  rw [← hu] at ha
  have hanswers : ∀ v y ds q, u.sequencerTest e.bay = v → v.bay e.bay = y →
      v.TellsAs (u.enqueueAll (.bay e.bay) ds) → v.engine (busOf e.bay) = { u.engine (busOf e.bay) with queue := q } →
      answers y ds q := fun v y ds q hv hy hd hq => by
    rw [hv] at ha
    have htold := ha.tells.trans (hd.trans ((hu ▸ s.writeTold_tells e.bay c).enqueueAll (.bay e.bay) ds))
    rw [← State.enqueueAll_append] at htold
    exact ⟨t, hexec, (ha.bay _).trans hy, htold.events, by rw [ha.engine, hq, hueng], helse, hshell⟩
  have htag : slot.tag = x.slot.tag := Slot.afterWrite_tag _ _
  have hqueue : u.engine (busOf e.bay) = { u.engine (busOf e.bay) with queue := (s.engine (busOf e.bay)).queue } := by
    rw [hueng]
  refine ⟨fun hp hm => ?_, fun hp hm => ?_, fun hp hr => ?_, fun hp hr => ?_⟩
  · refine hanswers _ _ _ _ (State.sequencerTest_ramp (by rw [hubay]; exact hp) hutimer hustep) ?_ ?_ ?_
    all_goals rw [State.rampWaitEnd_fixed (by rw [huprofile]; exact hm)]
    · rw [State.startTimer_bay, hubay, huprofile]
    · exact u.startTimer_tells _ _ _
    · exact hqueue
  · refine hanswers _ _ _ _ (State.sequencerTest_ramp (by rw [hubay]; exact hp) hutimer hustep) ?_ ?_ ?_
    all_goals rw [State.rampWaitEnd_pgood (by rw [huprofile]; exact hm)]
    · rw [State.requestRead_bay_ne, State.startTimer_bay, hubay, huprofile]
    · exact (State.requestRead_tells _ _ _).trans (u.startTimer_tells _ _ _)
    · have heng : (u.startTimer e.bay .rampTimeout (u.profileOf e.bay).rampTime.toNat).engine (busOf e.bay) =
          u.engine (busOf e.bay) := rfl
      rw [State.requestRead_engine, State.startTimer_bay, heng, hubay, hueng]
      simp [Engine.takes]
  · refine hanswers _ _ _ _ (State.sequencerTest_clock (by rw [hubay]; exact hp) hutimer hustep) ?_ ?_ ?_
    all_goals rw [hubay, if_neg (by rw [show x.target.released = false from hr]; exact Bool.false_ne_true)]
    · rw [State.clockWaitEnd, State.startTimer_bay, hubay, huprofile]
    · exact u.startTimer_tells _ _ _
    · exact hqueue
  · refine hanswers _ _ _ _ (State.sequencerTest_clock (by rw [hubay]; exact hp) hutimer hustep) ?_ ?_ ?_
    all_goals rw [hubay, if_pos hr, State.enterOn_eq]
    · rw [State.enqueueAll_bay, State.modifyBay_bay_self, hubay, ← htimer, Slot.afterOn, htag]
    · rw [hubay, Slot.onDetails, htag]
      exact (u.modifyBay_tells _ _).enqueueAll _ _
    · rw [State.enqueueAll_engine]
      exact hqueue

end Sys2Proof.Machine

/-! # A completed write and a drain (R31 to R34) -/

namespace Sys2Proof.Machine

theorem State.drainWaitEnd_p (s : State) (b : BayId) : s.drainWaitEnd b .p = s.enterCool b none := if_pos rfl

theorem State.drainWaitEnd_delayed {s : State} {b : BayId} {st : SeqStep} (hp : st ≠ .p)
    (hd : (s.profileOf b).drainStep ≠ 0) :
    s.drainWaitEnd b st = s.startTimer b .drainStep (s.profileOf b).drainStep.toNat := by
  unfold State.drainWaitEnd
  rw [if_neg hp, if_neg hd]

theorem State.drainWaitEnd_undelayed {s : State} {b : BayId} {st : SeqStep} (hp : st ≠ .p)
    (hd : (s.profileOf b).drainStep = 0) : s.drainWaitEnd b st = State.drainCompute drainFuel s b := by
  unfold State.drainWaitEnd
  rw [if_neg hp, if_pos hd]

/-- Settles O41: the first step of a drain that waited, its next step, and its end. -/
theorem writeMovesDrain : Obligations.WriteMovesDrain := by
  intro n e a c s hw hk hc hn x delay reached told hp hslot
  obtain ⟨t, hexec, ha, helse, hshell⟩ := exec_outputWriteComplete hw hk hc hn hslot
  subst hn
  obtain ⟨u, hu⟩ : ∃ u, u = s.writeTold e.bay c := ⟨_, rfl⟩
  have hubay : u.bay e.bay = { x with confirmed := some c, slot := x.slot.afterWrite c } := by
    rw [hu, State.writeTold_bay]
  have hueng : u.engine (busOf e.bay) = { s.engine (busOf e.bay) with bus := .idle } := by
    rw [hu, State.writeTold_engine]
  have huprofile : u.profileOf e.bay = s.profileOf e.bay := by rw [hu, State.writeTold_profileOf]
  have hutold : u.TellsAs told := by
    rw [hu]
    exact (s.writeTold_tells e.bay c).trans ((s.modifyBay_tells e.bay _).enqueueAll _ _).symm
  have hcools : u.CoolsAs told e.bay := by
    refine .of_shell hutold.events ?_ ?_
    · rw [hubay, State.enqueueAll_bay, State.modifyBay_bay_self]; rfl
    · rw [hu, State.writeTold_shell, State.enqueueAll_shell, State.modifyBay_shell]
  rw [← hu] at ha
  have hup : (u.bay e.bay).power = .drain := by rw [hubay]; exact hp
  have hstep : ∀ st, x.step = some st → reached → u.sequencerTest e.bay = u.drainWaitEnd e.bay st :=
    fun st hst ⟨htimer, g, hg, hreach⟩ =>
      State.sequencerTest_drain_step hup (by rw [hubay]; exact hst) (by rw [hubay]; exact htimer)
        (Bay.stepReached_of_gen (by rw [hubay]) (by rw [hubay]; exact hg) hreach)
  have hcompute : x.step = none ∨ ((x.step = some .r ∨ x.step = some .c) ∧ reached ∧ delay = 0) →
      u.sequencerTest e.bay = State.drainCompute drainFuel u e.bay := by
    rintro (hnone | ⟨hrc, hr, hd⟩)
    · exact State.sequencerTest_drain_first hup (by rw [hubay]; exact hnone)
    · have hd' : (u.profileOf e.bay).drainStep = 0 := by rw [huprofile]; exact hd
      rcases hrc with h | h <;> rw [hstep _ h hr] <;> exact State.drainWaitEnd_undelayed (by decide) hd'
  refine ⟨fun st hst hne hr hd => ⟨t, hexec, ?_⟩, fun hfirst => ⟨fun st hcase hg => ⟨t, hexec, ?_⟩,
    fun hcase => ⟨t, hexec, ?_⟩⟩, fun hst hr => ⟨t, hexec, ?_⟩⟩
  · rw [hstep st hst hr, State.drainWaitEnd_delayed hne (by rw [huprofile]; exact hd)] at ha
    refine ⟨?_, (ha.tells.trans ((u.startTimer_tells _ _ _).trans hutold)).events, ?_, helse, hshell⟩
    · rw [ha.bay, State.startTimer_bay, hubay, huprofile]
    · rw [ha.engine]
      exact hueng
  · rw [hcompute hfirst, State.drainCompute_waits (st := st) (by rw [hubay]; exact hcase)
      (by rw [hubay]; exact hg)] at ha
    have hdrained := (ha.bay e.bay).trans (u.drainStep_bay e.bay st)
    rw [hubay] at hdrained
    rw [hdrained]
    refine ⟨hp, rfl, rfl, rfl, drainUpdate_pwrEn _ _ _ st, drainUpdate_clkEn _ _ _ st, drainUpdate_released _ _ _ st,
      fun hauto => drainUpdate_indP hauto _ _ st, fun hne hl hen => ?_, rfl,
      (ha.tells.trans ((u.drainStep_tells _ st).trans hutold)).events, helse, hshell⟩
    rw [ha.engine]
    refine State.drainStep_hasWrite ?_ ?_ ?_
    · rw [hubay]; exact hne
    · rw [hubay]; exact hl
    · rw [hueng, Engine.takes, hen]; rfl
  · rw [hcompute hfirst, State.drainCompute_done (by rw [hubay]; exact hcase)] at ha
    have hkept := u.drainDone_keptByCooldown e.bay
    rw [← ha.bay, hubay] at hkept
    exact ⟨ha.coolEntered (hcools.coolEntered (u.drainDone_entered e.bay)), hkept.target, hkept.confirmed, helse,
      hshell⟩
  · rw [hstep .p hst hr, State.drainWaitEnd_p] at ha
    have hkept := u.enterCool_keptByCooldown e.bay none
    rw [← ha.bay, hubay] at hkept
    refine ⟨ha.coolEntered (hcools.coolEntered (u.enterCool_entered e.bay none)), fun hne => ?_, hkept.confirmed, helse,
      hshell⟩
    exact (hkept.target hne).trans (Image.autoInd_eq _ _ _)

end Sys2Proof.Machine

/-! # A completed read and the power state (R27, R42 to R46, R73) -/

namespace Sys2Proof.Machine

/-! ## The read itself (R73, R74) -/

/-- Bay `b` of a completed read before its levels are judged: its bus idle, and the image sampled (R73, R74). -/
def State.readTold (s : State) (b : BayId) (levels : Half) : State := (s.busIdle (busOf b)).sampleRead b levels

@[simp] theorem State.readTold_bay (s : State) (b : BayId) (levels : Half) :
    (s.readTold b levels).bay b = { s.bay b with
      sampled := some { levels := levels, time := s.millis }, live := Live.ofLevels levels } :=
  (s.busIdle _).modifyBay_bay_self b _

@[simp] theorem State.readTold_engine (s : State) (b : BayId) (levels : Half) :
    (s.readTold b levels).engine (busOf b) = { s.engine (busOf b) with bus := .idle } := s.busIdle_engine _

theorem State.readTold_tells (s : State) (b : BayId) (levels : Half) : (s.readTold b levels).TellsAs s :=
  ⟨rfl, rfl, rfl⟩

@[simp] theorem State.readTold_shell (s : State) (b : BayId) (levels : Half) :
    (s.readTold b levels).shell = s.shell := rfl

/-- The end of a read does not move the judgement of its readback: a read is no outstanding write (R102, R103). -/
theorem State.readTold_mismatch {s : State} {e : Entry} {a : Nat} (hw : s.OnWire (busOf e.bay) e a)
    (hk : e.kind = .inputRead) (levels output direction : Half) :
    (s.readTold e.bay levels).mismatch e.bay output direction = s.mismatch e.bay output direction := by
  have hcurrent : (s.engine (busOf e.bay)).bus.current = some { entry := e, ignored := false } := by
    have h := hw.1
    unfold BusState.onWire at h
    split at h
    · next hb => cases h; rw [hb]; rfl
    · cases h
  have hold : s.writeUnderWay e.bay = false := by simp [State.writeUnderWay, hcurrent, Entry.isWrite, hk]
  have hnew : (s.readTold e.bay levels).writeUnderWay e.bay = false := by
    simp [State.writeUnderWay, BusState.current]
  unfold State.mismatch State.writeOutstanding
  rw [hold, hnew, State.readTold_bay, State.readTold_engine]
  rfl

theorem Engine.takes_idle {g : Engine} (h : g.takes = true) : ({ g with bus := .idle } : Engine).takes = true := by
  unfold Engine.takes at h ⊢
  rw [Bool.and_eq_true] at h
  rw [h.1]
  rfl

theorem State.judgeLive_link {s : State} {b : BayId} (hl : (s.bay b).link = .bound) (before : Bool) :
    ((s.judgeLive b before).bay b).link = .bound :=
  ((s.judgeLive_serves b before hl).link b).trans hl

/-- What a read of a BOUND bay answers that no REFRESH and no sweep waits on and that shows no mismatch: its levels
judged, then the debounce rules (R73). -/
theorem exec_inputReadComplete {s : State} {n : BusId} {e : Entry} {a : Nat} {input output direction : Half}
    (hw : s.OnWire n e a) (hk : e.kind = .inputRead) (hn : busOf e.bay = n)
    (hrefresh : e.waiters.refresh = false) (hsweep : e.waiters.sweep = false) (hl : (s.bay e.bay).link = .bound)
    (hm : s.mismatch e.bay output direction = false) :
    let v := (s.readTold e.bay input).judgeLive e.bay (s.bay e.bay).live.fault
    ∃ t, exec (.inputReadComplete n input output direction) s = .next t ∧
      t.AnswersAs (v.debounce e.bay (View.ofLevels input (v.bay e.bay).auxDirs) input e.waiters.debounce) ∧
      s.SameElsewhere t e.bay ∧ t.shell = s.shell := by
  intro v
  subst hn
  have hlu : ((s.readTold e.bay input).bay e.bay).link = .bound := by rw [State.readTold_bay]; exact hl
  have hdone : (s.busIdle (busOf e.bay)).readDone e.bay e.waiters input output direction =
      v.debounce e.bay (View.ofLevels input (v.bay e.bay).auxDirs) input e.waiters.debounce := by
    have hmu := (State.readTold_mismatch hw hk input output direction).trans hm
    unfold State.readDone State.answerWaiters
    rw [← State.readTold, hrefresh, hsweep, State.busIdle_bay]
    dsimp only
    rw [if_pos hlu, if_neg (Bool.eq_false_iff.mp hmu), if_pos (State.judgeLive_link hlu _)]
    rfl
  have hres : s.completeTx (busOf e.bay) .inputRead
      (fun t e => t.readDone e.bay e.waiters input output direction) =
      (s.busIdle (busOf e.bay)).readDone e.bay e.waiters input output direction := by
    rw [← hk]; exact State.completeTx_onWire hw _
  obtain ⟨t, hexec, ha⟩ := s.event_answers hw.2 (s.completeTx (busOf e.bay) .inputRead
    (fun t e => t.readDone e.bay e.waiters input output direction))
  rw [hres] at ha
  refine ⟨t, hexec, hdone ▸ ha, State.busIdle_sameElsewhere (ha.sameElsewhere ⟨fun k hk => ?_, fun m hm => ?_⟩), ?_⟩
  · exact State.readDone_bay_ne _ _ _ _ _ _ _ hk
  · exact State.readDone_engine_ne _ _ _ _ _ _ _ hm
  · rw [ha.shell, State.readDone_shell, State.busIdle_shell]

/-- Without a candidate the debounce rules change the candidate alone (R78). -/
theorem State.debounce_resting {s : State} {b : BayId} (h : (s.bay b).candidate = none) (v : View) (levels : Half)
    (confirming : Bool) :
    ∃ cand, s.debounce b v levels confirming = s.modifyBay b fun x => { x with candidate := cand } := by
  unfold State.debounce
  dsimp only
  rw [h]
  dsimp only
  split
  · exact ⟨none, (State.modifyBay_of_eq (by rw [← h])).symm⟩
  · exact ⟨_, State.modifyBay_congr rfl⟩

/-! ## The judgement of the levels (R27, R42 to R46) -/

/-- The note of an idle bay's FAULT withdrawn, as every read without FAULT does (R45). -/
def State.unnoted (s : State) (b : BayId) : State := s.modifyBay b fun x => { x with idleNote := false }

/-- The FAULT of an idle bay noted, and told once (R45). -/
def State.noted (s : State) (b : BayId) : State :=
  (s.modifyBay b fun x => { x with idleNote := true }).enqueue (.bay b) (.fault .fltInputIdle)

theorem State.noted_bay (s : State) (b : BayId) : (s.noted b).bay b = { s.bay b with idleNote := true } := by
  rw [State.noted, State.enqueue_bay, State.modifyBay_bay_self]

theorem State.noted_tells (s : State) (b : BayId) :
    (s.noted b).TellsAs (s.enqueue (.bay b) (.fault .fltInputIdle)) := (s.modifyBay_tells b _).enqueue _ _

/-- A FAULTED bay that shows FAULT: a new assertion counts (R46). -/
def State.faultCounted (s : State) (b : BayId) (before : Bool) : State :=
  if before then s else s.modifyBay b fun x => { x with faultCount := satInc x.faultCount }

theorem State.faultCounted_bay (s : State) (b : BayId) (before : Bool) :
    (s.faultCounted b before).bay b = { s.bay b with
      faultCount := if before = true ∨ (s.bay b).faultCount = 255 then (s.bay b).faultCount
                    else (s.bay b).faultCount + 1 } := by
  cases before with
  | true => simp [State.faultCounted]
  | false => simp [State.faultCounted, satInc]

theorem State.faultCounted_tells (s : State) (b : BayId) (before : Bool) : (s.faultCounted b before).TellsAs s := by
  cases before with
  | true => exact .refl s
  | false => exact s.modifyBay_tells b fun x => { x with faultCount := satInc x.faultCount }

section Judge

variable {s : State} {b : BayId} {before : Bool}

theorem State.judgeLive_faults (hf : (s.bay b).live.fault = true)
    (hp : (s.bay b).power = .ramp ∨ (s.bay b).power = .clock ∨ (s.bay b).power = .on ∨ (s.bay b).power = .drain) :
    s.judgeLive b before = s.takeFault b .fltInput := by
  rcases hp with hp | hp | hp | hp <;> simp [State.judgeLive, hf, hp]

theorem State.judgeLive_pgoodLost (hf : (s.bay b).live.fault = false) (hg : (s.bay b).live.pgood = false)
    (hp : (s.bay b).power = .clock ∨ (s.bay b).power = .on) :
    s.judgeLive b before = (s.unnoted b).takeFault b .pgoodLost := by
  rcases hp with hp | hp <;> simp [State.judgeLive, hf, hg, hp, State.unnoted]

theorem State.judgeLive_idle (hf : (s.bay b).live.fault = true)
    (hp : (s.bay b).power = .off ∨ (s.bay b).power = .cool) :
    s.judgeLive b before = if (s.bay b).idleNote then s else s.noted b := by
  rcases hp with hp | hp <;> cases hn : (s.bay b).idleNote <;> simp [State.judgeLive, State.noted, hf, hp, hn]

theorem State.judgeLive_rampEnds (hf : (s.bay b).live.fault = false) (hg : (s.bay b).live.pgood = true)
    (hp : (s.bay b).power = .ramp) {k : Nat} (ht : (s.bay b).timer = some { purpose := .rampTimeout, left := k }) :
    s.judgeLive b before = (s.unnoted b).endOfRamp b := by
  simp [State.judgeLive, hf, hg, hp, ht, State.unnoted]

/-- Levels that the Sequencer does not act on (R42, R44). -/
theorem State.judgeLive_rests (hf : (s.bay b).live.fault = false)
    (hp : ((s.bay b).power = .ramp ∧ ((s.bay b).live.pgood = false ∨
        ∀ k, (s.bay b).timer ≠ some { purpose := .rampTimeout, left := k })) ∨
      (((s.bay b).power = .clock ∨ (s.bay b).power = .on) ∧ (s.bay b).live.pgood = true) ∨ (s.bay b).power = .off) :
    s.judgeLive b before = s.unnoted b := by
  rcases hp with ⟨hp, hr⟩ | ⟨hp | hp, hg⟩ | hp
  · have hwait : ((s.bay b).live.pgood && ((s.bay b).timer.map (·.purpose)) = some .rampTimeout) = false := by
      rcases hr with hg | ht
      · simp [hg]
      · cases htm : (s.bay b).timer with
        | none => simp
        | some tm =>
          have hne : tm.purpose ≠ .rampTimeout := fun h => ht tm.left (by rw [htm, ← h])
          simp [hne]
    simp only [State.judgeLive, hf, hp, hwait]
    rfl
  · simp [State.judgeLive, hf, hp, hg, State.unnoted]
  · simp [State.judgeLive, hf, hp, hg, State.unnoted]
  · simp [State.judgeLive, hf, hp, State.unnoted]

/-- A read of a FAULTED bay that shows FAULT (R46). -/
theorem State.judgeLive_faulted (hf : (s.bay b).live.fault = true) (hp : (s.bay b).power = .faulted) :
    s.judgeLive b before =
      if (s.bay b).slot.runs .clearFault then (s.faultCounted b before).completeCommand b .fault
      else s.faultCounted b before := by
  cases before <;> simp [State.judgeLive, State.faultCounted, hf, hp]

end Judge

end Sys2Proof.Machine

/-! # What a read of a bay without a candidate does (R42 to R46) -/

namespace Sys2Proof.Machine

/-- A read of a bay without a candidate: its levels judged, and perhaps a candidate started (R73, R78). -/
theorem exec_inputReadComplete_resting {s v : State} {n : BusId} {e : Entry} {a : Nat}
    {input output direction : Half} (hw : s.OnWire n e a) (hk : e.kind = .inputRead) (hn : busOf e.bay = n)
    (hwait : e.waiters = .none) (hl : (s.bay e.bay).link = .bound) (hm : s.mismatch e.bay output direction = false)
    (hv : (s.readTold e.bay input).judgeLive e.bay (s.bay e.bay).live.fault = v)
    (hc : (v.bay e.bay).candidate = none) :
    ∃ t cand, exec (.inputReadComplete n input output direction) s = .next t ∧
      t.bay e.bay = { v.bay e.bay with candidate := cand } ∧ (∀ m, t.engine m = v.engine m) ∧ t.TellsAs v ∧
      s.SameElsewhere t e.bay ∧ t.shell = s.shell := by
  obtain ⟨t, hexec, ha, helse, hshell⟩ := exec_inputReadComplete hw hk hn
    (by rw [hwait]; rfl) (by rw [hwait]; rfl) hl hm
  rw [hv] at ha
  obtain ⟨cand, hcand⟩ := State.debounce_resting hc (View.ofLevels input (v.bay e.bay).auxDirs) input e.waiters.debounce
  rw [hcand] at ha
  exact ⟨t, cand, hexec, (ha.bay _).trans (v.modifyBay_bay_self _ _), ha.engine, ha.tells.trans (v.modifyBay_tells _ _),
    helse, hshell⟩

/-- Settles O43: one judgement for each power state. -/
theorem readJudgesLevels : Obligations.ReadJudgesLevels := by
  intro n e a input output direction s hw hk hwait hn hl hm hcand x faulted
  have hread := fun v hv => exec_inputReadComplete_resting (v := v) (input := input) hw hk hn hwait hl hm hv
  subst hn
  obtain ⟨u, hu⟩ : ∃ u, u = s.readTold e.bay input := ⟨_, rfl⟩
  have hubay : u.bay e.bay = { x with
      sampled := some { levels := input, time := s.millis }, live := Live.ofLevels input } := by
    rw [hu, State.readTold_bay]
  have hutells : u.TellsAs s := by rw [hu]; exact s.readTold_tells _ _
  have hueng : u.engine (busOf e.bay) = { s.engine (busOf e.bay) with bus := .idle } := by
    rw [hu, State.readTold_engine]
  have hubay' : (u.unnoted e.bay).bay e.bay = { u.bay e.bay with idleNote := false } := u.modifyBay_bay_self _ _
  have hutells' : (u.unnoted e.bay).TellsAs s := (u.modifyBay_tells _ _).trans hutells
  have hlevel : ∀ f, input.getLsbD 11 = f → (u.bay e.bay).live.fault = !f := fun f hf => by
    rw [hubay, ← hf]; rfl
  have hpgood : ∀ g, input.getLsbD 12 = g → (u.bay e.bay).live.pgood = g := fun g hg => by
    rw [hubay, ← hg]; rfl
  have hpower : (u.bay e.bay).power = x.power := by rw [hubay]
  rw [← hu] at hread
  have hfaulted : ∀ (w : State) kind note, u.judgeLive e.bay x.live.fault = w.takeFault e.bay kind →
      w.bay e.bay = { u.bay e.bay with idleNote := note } → w.engine (busOf e.bay) = u.engine (busOf e.bay) →
      w.TellsAs s → faulted kind := fun w kind note hv hwbay hweng hwtells => by
    rw [hubay] at hwbay
    obtain ⟨sl, hbay⟩ := w.takeFault_bay e.bay kind
    have hslot : sl = ((w.takeFault e.bay kind).bay e.bay).slot := by rw [hbay]
    obtain ⟨t, cand, hexec, htbay, hteng, httells, helse, hshell⟩ := hread _ hv (by rw [hbay, hwbay]; exact hcand)
    rw [hbay, hwbay] at htbay
    refine ⟨t, hexec, ?_⟩
    rw [htbay]
    refine ⟨rfl, faultUpdate_eq _ _, rfl, rfl, rfl, rfl, rfl, x.faulted_count kind, fun hne htakes => ?_,
      fun hi => ?_, fun c hc hruns => ?_, helse, hshell⟩
    · rw [hteng]
      refine State.takeFault_hasUrgentWrite ?_ ?_ ?_
      · rw [hwbay]; exact hne
      · rw [hwbay]; exact hl
      · rw [hweng, hueng]; exact Engine.takes_idle htakes
    · exact (httells.trans ((State.takeFault_told_idle (by rw [hwbay]; exact hi) kind).1.trans
        (hwtells.enqueueAll _ _))).events
    · obtain ⟨htold, hsl⟩ := State.takeFault_told_ends (s := w) (b := e.bay) hc (by rw [hwbay]; exact hruns) kind
      rw [hwbay] at htold hsl
      exact ⟨hslot.trans hsl, (httells.trans (htold.trans (hwtells.enqueueAll _ _))).events⟩
  refine ⟨fun hp hf => ?_, fun hp hf hg => ?_, fun hp hf => ?_, fun hp hf => ?_, fun hp hf hg ⟨k, ht⟩ hclk hgen => ?_⟩
  · exact hfaulted u .fltInput _ (State.judgeLive_faults (hlevel _ hf) (by rw [hpower]; exact hp)) (by rw [hubay])
      rfl hutells
  · exact hfaulted (u.unnoted e.bay) .pgoodLost false
      (State.judgeLive_pgoodLost (hlevel _ hf) (hpgood _ hg) (by rw [hpower]; exact hp)) hubay' rfl hutells'
  · have hv := State.judgeLive_idle (before := x.live.fault) (hlevel _ hf) (by rw [hpower]; exact hp)
    rw [hubay] at hv
    cases hnote : x.idleNote with
    | true =>
      rw [hnote] at hv
      obtain ⟨t, cand, hexec, htbay, -, httells, -⟩ := hread u hv (by rw [hubay]; exact hcand)
      rw [hubay] at htbay
      refine ⟨t, hexec, ?_⟩
      rw [htbay]
      exact ⟨hnote, rfl, rfl, ⟨rfl, rfl, rfl⟩, (httells.trans hutells).events⟩
    | false =>
      rw [hnote] at hv
      obtain ⟨t, cand, hexec, htbay, -, httells, -⟩ := hread (u.noted e.bay) hv (by
        rw [State.noted_bay, hubay]; exact hcand)
      rw [State.noted_bay, hubay] at htbay
      refine ⟨t, hexec, ?_⟩
      rw [htbay]
      exact ⟨rfl, rfl, rfl, ⟨rfl, rfl, rfl⟩, (httells.trans ((u.noted_tells _).trans (hutells.enqueue _ _))).events⟩
  · have hv := State.judgeLive_faulted (before := x.live.fault) (hlevel _ hf) (by rw [hpower]; exact hp)
    have hbay := u.faultCounted_bay e.bay x.live.fault
    have htells := (u.faultCounted_tells e.bay x.live.fault).trans hutells
    rw [hubay] at hv hbay
    cases hruns : x.slot.runs .clearFault with
    | true =>
      rw [if_pos hruns, State.completeCommand_of_runs (c := .clearFault) (by rw [hbay]; exact hruns)] at hv
      obtain ⟨t, cand, hexec, htbay, -, httells, -⟩ := hread _ hv
        (by rw [State.enqueue_bay, State.modifyBay_bay_self, hbay]; exact hcand)
      rw [State.enqueue_bay, State.modifyBay_bay_self, hbay] at htbay
      have htold := httells.trans (((State.modifyBay_tells _ _ _).trans htells).enqueue _ _)
      rw [hbay] at htold
      refine ⟨t, hexec, ?_⟩
      rw [htbay]
      exact ⟨hp, rfl, rfl, ⟨rfl, rfl, rfl⟩, fun _ => ⟨rfl, htold.events⟩,
        fun hi => absurd (Slot.runs_iff.mp hruns).1 (by rw [hi]; exact Bool.false_ne_true)⟩
    | false =>
      rw [if_neg (Bool.eq_false_iff.mp hruns)] at hv
      obtain ⟨t, cand, hexec, htbay, -, httells, -⟩ := hread _ hv (by rw [hbay]; exact hcand)
      refine ⟨t, hexec, ?_⟩
      rw [htbay, hbay]
      exact ⟨hp, rfl, rfl, ⟨rfl, rfl, rfl⟩, nofun, fun _ => ⟨rfl, (httells.trans htells).events⟩⟩
  · have hbay := State.clockBegun_bay (s := u.unnoted e.bay) (b := e.bay) (by rw [hubay', hubay]; exact hclk)
    have hv : u.judgeLive e.bay x.live.fault = (u.unnoted e.bay).clockBegun e.bay := by
      rw [State.judgeLive_rampEnds (hlevel _ hf) (hpgood _ hg) (by rw [hpower]; exact hp) (by rw [hubay]; exact ht)]
      exact State.endOfRamp_waits (by rw [hubay', hubay]; exact hclk) (by rw [hubay', hubay]; exact hgen)
    rw [hubay', hubay] at hbay
    obtain ⟨t, cand, hexec, htbay, -, httells, -⟩ := hread _ hv (by rw [hbay]; exact hcand)
    refine ⟨t, hexec, ?_⟩
    rw [htbay, hbay]
    exact ⟨rfl, rfl, rfl, rfl, (httells.trans ((State.clockBegun_tells _ _).trans hutells')).events⟩

end Sys2Proof.Machine

/-! # Acceptance and its hand-offs to the Sequencer (R30, R36, R37, R83 to R85) -/

namespace Sys2Proof.Machine

/-! ## The records of an acceptance (R84) -/

theorem State.enqueueAll_ite (s : State) (src : Source) (p : Prop) [Decidable p] (ds : List Detail) :
    s.enqueueAll src (if p then ds else []) = if p then s.enqueueAll src ds else s := by
  split <;> rfl

theorem State.enqueueAll_ite_nil (s : State) (src : Source) (p : Prop) [Decidable p] (ds : List Detail) :
    s.enqueueAll src (if p then [] else ds) = if p then s else s.enqueueAll src ds := by
  split <;> rfl

theorem State.acceptanceRecords_eq (s : State) (b : BayId) (before : Accepted) :
    s.acceptanceRecords b before = s.enqueueAll (.bay b) (acceptanceDetails before (s.bay b).accepted) := by
  have hpressed : ∀ p q : Bool, (p && !q) = true ↔ p = true ∧ q = false := by decide
  have haux : ∀ p q p' q' : Bool, (decide (p = p') && decide (q = q')) = true ↔ ¬ (p ≠ p' ∨ q ≠ q') := by decide
  unfold State.acceptanceRecords acceptanceDetails
  simp only [State.enqueueAll_append, State.enqueueAll_ite, State.enqueueAll_ite_nil, State.enqueueAll_cons,
    State.enqueueAll_nil, hpressed, haux, ne_eq, ite_not]

/-- The bay once a view has been accepted and its records told, before the hand-offs (R83, R84). -/
def State.acceptTold (s : State) (b : BayId) (v : View) (levels : Half) : State :=
  (s.modifyBay b fun x => { x with accepted := v.accept x.accepted levels, candidate := none }).enqueueAll (.bay b)
    (acceptanceDetails (s.bay b).accepted (v.accept (s.bay b).accepted levels))

@[simp] theorem State.acceptTold_bay (s : State) (b : BayId) (v : View) (levels : Half) :
    (s.acceptTold b v levels).bay b =
      { s.bay b with accepted := v.accept (s.bay b).accepted levels, candidate := none } := by
  rw [State.acceptTold, State.enqueueAll_bay, State.modifyBay_bay_self]

@[simp] theorem State.acceptTold_engine (s : State) (b : BayId) (v : View) (levels : Half) (m : BusId) :
    (s.acceptTold b v levels).engine m = s.engine m := by
  rw [State.acceptTold, State.enqueueAll_engine, State.modifyBay_engine]

@[simp] theorem State.acceptTold_shell (s : State) (b : BayId) (v : View) (levels : Half) :
    (s.acceptTold b v levels).shell = s.shell := by
  rw [State.acceptTold, State.enqueueAll_shell, State.modifyBay_shell]

theorem State.acceptTold_tells (s : State) (b : BayId) (v : View) (levels : Half) :
    (s.acceptTold b v levels).TellsAs (s.enqueueAll (.bay b)
      (acceptanceDetails (s.bay b).accepted (v.accept (s.bay b).accepted levels))) :=
  (s.modifyBay_tells b _).enqueueAll _ _

/-- An acceptance hands the change of presence over before the change of the latch (R83, R85). -/
theorem State.acceptView_eq (s : State) (b : BayId) (v : View) (levels : Half) :
    s.acceptView b v levels =
      let w := s.acceptTold b v levels
      let w' := if v.present = (s.bay b).accepted.present then w else w.presenceHandOff b
      if v.latchClosed = (s.bay b).accepted.latchClosed then w' else w'.latchHandOff b := by
  unfold State.acceptView
  dsimp only
  rw [State.acceptanceRecords_eq, State.modifyBay_bay_self, ← State.acceptTold]

/-- The confirming read of a candidate that still holds its view accepts it (R81, R83). -/
theorem State.debounce_accepts {s : State} {b : BayId} {c : Candidate} (hc : (s.bay b).candidate = some c)
    (hp : c.phase = .confirming) (levels : Half) :
    s.debounce b c.view levels true = s.acceptView b c.view levels := by
  unfold State.debounce
  dsimp only
  rw [hc]
  dsimp only
  rw [hp]
  simp

/-! ## Hand-offs (R36, R37, R85) -/

section HandOff

variable {s : State} {b : BayId}

theorem State.automaticOff_drains (h : (s.bay b).power.powered = true) : s.automaticOff b true = s.powerDown b :=
  if_pos h

theorem State.automaticOff_rests {enabled : Bool} (h : enabled = false ∨ (s.bay b).power.powered = false) :
    s.automaticOff b enabled = s :=
  if_neg (by rcases h with h | h <;> simp [h])

theorem PowerState.ne_off_of_powered {p : PowerState} (h : p.powered = true) : p ≠ .off := by
  rintro rfl
  cases h

/-- A removal hands a power-down to a powered bay whose SURPRISE_OFF is 1 (R36). -/
theorem State.presenceHandOff_drains (hp : (s.bay b).power.powered = true) (ha : (s.bay b).accepted.present = false)
    (hs : (s.bay b).config.surpriseOff = true) : s.presenceHandOff b = s.powerDown b := by
  unfold State.presenceHandOff
  rw [ha, hs]
  exact State.automaticOff_drains hp

/-- A powered bay takes nothing from an accepted presence that asks for no power-down (R30, R36). -/
theorem State.presenceHandOff_rests (hp : (s.bay b).power.powered = true)
    (h : (s.bay b).accepted.present = true ∨ (s.bay b).config.surpriseOff = false) : s.presenceHandOff b = s := by
  unfold State.presenceHandOff
  split
  · exact State.autoStart_rests fun hoff => absurd hoff (PowerState.ne_off_of_powered hp)
  · next hn => exact State.automaticOff_rests (.inl (h.resolve_left hn))

/-- An opened latch hands a power-down to a powered bay whose LATCH_OFF is 1 (R37). -/
theorem State.latchHandOff_drains (hp : (s.bay b).power.powered = true) (ha : (s.bay b).accepted.latchClosed = false)
    (hs : (s.bay b).config.latchOff = true) : s.latchHandOff b = s.powerDown b := by
  unfold State.latchHandOff
  rw [ha, hs]
  exact State.automaticOff_drains hp

/-- A bay without a module that is no longer powered takes nothing from its latch (R30, R37). -/
theorem State.latchHandOff_rests (hp : (s.bay b).power.powered = false) (ha : (s.bay b).accepted.present = false) :
    s.latchHandOff b = s := by
  unfold State.latchHandOff
  split
  · refine State.autoStart_rests fun _ => Bool.eq_false_iff.mpr fun h => ?_
    obtain ⟨-, hpres, -⟩ := (s.autoStartReady_iff b).mp h
    rw [ha] at hpres
    cases hpres
  · exact State.automaticOff_rests (.inr hp)

end HandOff

/-- An accepted removal or opened latch of a powered bay ends in one power-down (R36, R37, R85). The bay that it leaves
is no longer powered, so that a latch accepted with the removal asks for nothing more. -/
theorem State.acceptView_drains {s : State} {b : BayId} {v : View} {levels : Half}
    (hp : (s.bay b).power.powered = true)
    (h : (v.present = false ∧ (s.bay b).accepted.present = true ∧ (s.bay b).config.surpriseOff = true) ∨
      (v.latchClosed = false ∧ (s.bay b).accepted.latchClosed = true ∧ (s.bay b).config.latchOff = true))
    (hleft : v.present = false → (((s.acceptTold b v levels).powerDown b).bay b).power.powered = false)
    (hacc : (((s.acceptTold b v levels).powerDown b).bay b).accepted = v.accept (s.bay b).accepted levels) :
    s.acceptView b v levels = (s.acceptTold b v levels).powerDown b := by
  have hwbay := s.acceptTold_bay b v levels
  rw [State.acceptView_eq]
  dsimp only
  by_cases hgone : v.present = false ∧ (s.bay b).accepted.present = true ∧ (s.bay b).config.surpriseOff = true
  · obtain ⟨hv, hpres, hoff⟩ := hgone
    have hpresence : (if v.present = (s.bay b).accepted.present then s.acceptTold b v levels
        else (s.acceptTold b v levels).presenceHandOff b) = (s.acceptTold b v levels).powerDown b := by
      rw [if_neg (by rw [hv, hpres]; exact Bool.false_ne_true)]
      exact State.presenceHandOff_drains (by rw [hwbay]; exact hp) (by rw [hwbay]; exact hv) (by rw [hwbay]; exact hoff)
    rw [hpresence]
    split
    · rfl
    · exact State.latchHandOff_rests (hleft hv) (by rw [hacc]; exact hv)
  · obtain ⟨hv, hclosed, hoff⟩ := h.resolve_left hgone
    have hpresence : (if v.present = (s.bay b).accepted.present then s.acceptTold b v levels
        else (s.acceptTold b v levels).presenceHandOff b) = s.acceptTold b v levels := by
      split
      · rfl
      · next hne =>
        refine State.presenceHandOff_rests (by rw [hwbay]; exact hp) ?_
        rw [hwbay]
        cases hvp : v.present with
        | true => exact .inl hvp
        | false =>
          refine .inr (Bool.eq_false_iff.mpr fun hs => hgone ⟨hvp, ?_, hs⟩)
          rw [hvp] at hne
          exact Bool.eq_true_of_not_eq_false (Ne.symm hne)
    rw [hpresence, if_neg (by rw [hv, hclosed]; exact Bool.false_ne_true)]
    exact State.latchHandOff_drains (by rw [hwbay]; exact hp) (by rw [hwbay]; exact hv) (by rw [hwbay]; exact hoff)

/-- An accepted insertion or closed latch of an OFF bay that is ready starts it once (R30, R85). -/
theorem State.acceptView_starts {s : State} {b : BayId} {v : View} {levels : Half} (hv : v.present = true)
    (hlatch : v.latchClosed = true)
    (hnew : (s.bay b).accepted.present = false ∨ (s.bay b).accepted.latchClosed = false)
    (hp : (s.bay b).power = .off) (hr : (s.acceptTold b v levels).autoStartReady b = true) :
    s.acceptView b v levels = (s.acceptTold b v levels).beginPowerUp b := by
  have hwbay := s.acceptTold_bay b v levels
  have hstart : (s.acceptTold b v levels).autoStart b = (s.acceptTold b v levels).beginPowerUp b :=
    State.autoStart_started (by rw [hwbay]; exact hp) hr
  have hpresence : (s.acceptTold b v levels).presenceHandOff b = (s.acceptTold b v levels).beginPowerUp b := by
    rw [State.presenceHandOff, hwbay, ← hstart]
    exact if_pos hv
  have hlatchOff : (s.acceptTold b v levels).latchHandOff b = (s.acceptTold b v levels).beginPowerUp b := by
    rw [State.latchHandOff, hwbay, ← hstart]
    exact if_pos hlatch
  have hagain : ((s.acceptTold b v levels).beginPowerUp b).latchHandOff b =
      (s.acceptTold b v levels).beginPowerUp b := by
    obtain ⟨tm, g, hup⟩ := (s.acceptTold b v levels).beginPowerUp_bay b
    rw [State.latchHandOff, hup, hwbay]
    refine (if_pos hlatch).trans (State.autoStart_rests fun hoff => ?_)
    rw [hup] at hoff
    cases hoff
  rw [State.acceptView_eq, hv, hlatch]
  dsimp only
  cases hpres : (s.bay b).accepted.present with
  | false =>
    rw [if_neg Bool.false_ne_true.symm, hpresence]
    split
    · rfl
    · exact hagain
  | true =>
    have hclosed := hnew.resolve_left (by rw [hpres]; exact Bool.false_ne_true.symm)
    rw [if_pos rfl, hclosed]
    exact hlatchOff

end Sys2Proof.Machine

/-! # What a confirmed view does to the power state (R30, R36, R37, R83 to R85) -/

namespace Sys2Proof.Machine

/-! ## The power-up withdrawn by a power-down (R31) -/

/-- The bay whose POWER_ON a power-down ends ABORTED (R31). -/
def State.powerOnAborted (s : State) (b : BayId) : State :=
  if (s.bay b).slot.runs .powerOn then s.completeCommand b .aborted else s

/-- The slot once a power-down has ended a POWER_ON in progress (R31). -/
def Slot.afterPowerDown (sl : Slot) : Slot := if sl.runs .powerOn then Slot.ended .powerOn sl.tag .aborted else sl

/-- The COMMAND record of that end (R31). -/
def Slot.powerDownDetails (sl : Slot) : List Detail :=
  if sl.runs .powerOn then [.command .powerOn sl.tag .aborted] else []

theorem Slot.afterPowerDown_not_powerOn (sl : Slot) : sl.afterPowerDown.runs .powerOn = false := by
  unfold Slot.afterPowerDown
  split
  · rfl
  · next h => exact Bool.eq_false_iff.mpr h

@[simp] theorem State.powerOnAborted_bay (s : State) (b : BayId) :
    (s.powerOnAborted b).bay b = { s.bay b with slot := (s.bay b).slot.afterPowerDown } := by
  unfold State.powerOnAborted Slot.afterPowerDown
  split
  · next h => rw [State.completeCommand_of_runs h, State.enqueue_bay, State.modifyBay_bay_self]
  · rfl

theorem State.powerOnAborted_tells (s : State) (b : BayId) :
    (s.powerOnAborted b).TellsAs (s.enqueueAll (.bay b) (s.bay b).slot.powerDownDetails) := by
  unfold State.powerOnAborted Slot.powerDownDetails
  split
  · next h =>
    rw [State.completeCommand_of_runs h]
    exact (s.modifyBay_tells b _).enqueue _ _
  · exact .refl s

@[simp] theorem State.powerOnAborted_engine (s : State) (b : BayId) (m : BusId) :
    (s.powerOnAborted b).engine m = s.engine m := by
  have hengines : (s.powerOnAborted b).engines = s.engines := by
    unfold State.powerOnAborted
    split
    · exact s.completeCommand_engines b _
    · rfl
  unfold State.engine
  rw [hengines]

@[simp] theorem State.powerOnAborted_shell (s : State) (b : BayId) : (s.powerOnAborted b).shell = s.shell := by
  unfold State.powerOnAborted
  split <;> simp

theorem State.powerDown_aborts (s : State) (b : BayId) : s.powerDown b = (s.powerOnAborted b).powerDown b := by
  have hended : ((s.powerOnAborted b).bay b).slot.runs .powerOn = false := by
    rw [State.powerOnAborted_bay]
    exact Slot.afterPowerDown_not_powerOn _
  rw [State.powerDown_eq hended]
  rfl

/-! ## An entry into COOL that no power-up follows (R35) -/

theorem State.abandonHeld_judges (s : State) (b : BayId) : (s.abandonHeld b).JudgesAs s b := by
  obtain ⟨pu, sl, hbay⟩ := s.abandonHeld_bay b
  exact .of_shell (by rw [hbay]) (by rw [hbay]) (s.abandonHeld_shell b)

section Unready

variable {s : State} {b : BayId} (h : s.heldReady b = false)
include h

theorem State.abandonHeld_pendingUp : ((s.abandonHeld b).bay b).pendingUp = false := by
  cases hp : (s.bay b).pendingUp with
  | false => rw [State.abandonHeld_rests (.inl hp), hp]
  | true =>
    obtain ⟨sl, hsl⟩ := (s.modifyBay b fun x => { x with pendingUp := false }).completeCommand_slot b .aborted
    rw [State.abandonHeld_of_unready hp h, hsl, State.modifyBay_bay_self]

theorem State.cooldownEnds_off : ((s.cooldownEnds b).bay b).power = .off := by
  have hready := (State.abandonHeld_judges s b).autoStartReady.trans (State.autoStartReady_of_not_heldReady h)
  unfold State.cooldownEnds
  dsimp only
  rw [State.abandonHeld_pendingUp h, State.enterOff_rests hready]
  simp

theorem State.enterCool_unpowered (cause : Option StateCause) :
    ((s.enterCool b cause).bay b).power.powered = false := by
  obtain ⟨g, hg⟩ := s.coolTold_bay b
  rw [State.enterCool_eq]
  split
  · rw [State.cooldownEnds_off]
    · rfl
    · exact ((State.enqueue_judges _ b _ _).trans ((State.abandonHeld_judges _ b).trans
        (s.coolTold_judges b))).heldReady.trans h
  · rw [State.startTimer_bay, State.enqueue_bay, hg]
    rfl

theorem State.drainDone_unpowered : ((s.drainDone b).bay b).power.powered = false := by
  have hj : (s.updateTarget b (drainCompletion (s.bay b).config) false).JudgesAs s b :=
    .of_shell (by rw [State.updateTarget_bay]) (by rw [State.updateTarget_bay]) (s.updateTarget_shell b _ _)
  exact State.enterCool_unpowered (hj.heldReady.trans h) none

end Unready

/-! ## The confirming read (R73, R80, R83) -/

/-- The bay after a read whose levels the Sequencer does not act on (R45, R73). -/
def Bay.readQuietly (x : Bay) (now : BitVec 32) (levels : Half) : Bay :=
  { x with sampled := some { levels := levels, time := now }, live := Live.ofLevels levels, idleNote := false }

/-- The confirming read of a candidate whose view it shows, and whose levels the Sequencer does not act on, accepts the
view (R73, R83). -/
theorem exec_inputReadComplete_accepts {s : State} {n : BusId} {e : Entry} {a : Nat} {c : Candidate}
    {input output direction : Half} (hw : s.OnWire n e a) (hk : e.kind = .inputRead) (hn : busOf e.bay = n)
    (hl : (s.bay e.bay).link = .bound) (hwait : e.waiters = { refresh := false, debounce := true, sweep := false })
    (hm : s.mismatch e.bay output direction = false) (hf : input.getLsbD 11 = true)
    (hc : (s.bay e.bay).candidate = some c) (hphase : c.phase = .confirming)
    (hview : View.ofLevels input (s.bay e.bay).auxDirs = c.view)
    (hp : ((s.bay e.bay).power = .ramp ∧ (input.getLsbD 12 = false ∨
        ∀ k, (s.bay e.bay).timer ≠ some { purpose := .rampTimeout, left := k })) ∨
      (((s.bay e.bay).power = .clock ∨ (s.bay e.bay).power = .on) ∧ input.getLsbD 12 = true) ∨
      (s.bay e.bay).power = .off) :
    ∃ t v : State, exec (.inputReadComplete n input output direction) s = .next t ∧
      t.AnswersAs (v.acceptView e.bay c.view input) ∧
      v.bay e.bay = (s.bay e.bay).readQuietly s.millis input ∧
      v.engine (busOf e.bay) = { s.engine (busOf e.bay) with bus := .idle } ∧ v.TellsAs s ∧ v.shell = s.shell ∧
      s.SameElsewhere t e.bay ∧ t.shell = s.shell := by
  obtain ⟨t, hexec, ha, helse, hshell⟩ := exec_inputReadComplete (input := input) hw hk hn
    (by rw [hwait]) (by rw [hwait]) hl hm
  obtain ⟨u, hu⟩ : ∃ u, u = s.readTold e.bay input := ⟨_, rfl⟩
  have hubay : u.bay e.bay = { s.bay e.bay with
      sampled := some { levels := input, time := s.millis }, live := Live.ofLevels input } := by
    rw [hu, State.readTold_bay]
  have hvbay : (u.unnoted e.bay).bay e.bay = (s.bay e.bay).readQuietly s.millis input :=
    (u.modifyBay_bay_self _ _).trans (by rw [hubay]; rfl)
  have hjudged : u.judgeLive e.bay (s.bay e.bay).live.fault = u.unnoted e.bay := by
    refine State.judgeLive_rests ?_ ?_ <;> rw [hubay]
    · simp [Live.ofLevels, hf]
    · exact hp
  rw [← hu, hjudged, show e.waiters.debounce = true by rw [hwait],
    show View.ofLevels input ((u.unnoted e.bay).bay e.bay).auxDirs = c.view by rw [hvbay, ← hview]; rfl,
    State.debounce_accepts (by rw [hvbay]; exact hc) hphase] at ha
  refine ⟨t, u.unnoted e.bay, hexec, ha, hvbay, ?_, ?_, ?_, helse, hshell⟩
  · rw [State.unnoted, State.modifyBay_engine, hu, State.readTold_engine]
  · rw [hu]; exact (State.modifyBay_tells _ _ _).trans (s.readTold_tells _ _)
  · rw [State.unnoted, State.modifyBay_shell, hu, State.readTold_shell]

/-! ## The accepted view and the power state (R30 to R32, R36, R37) -/

theorem State.classProfile_of_class {s : State} {b : BayId} {m : BitVec 3}
    (h : (s.bay b).accepted.moduleClass = some m) : s.classProfile b = s.classMap[m.toNat] := by
  unfold State.classProfile
  rw [h]
  rfl

/-- A bay without a module has no power-up that may begin (R35). -/
theorem State.heldReady_of_absent {s : State} {b : BayId} (h : (s.bay b).accepted.present = false) :
    s.heldReady b = false := by
  simp [State.heldReady, h]

/-- The bay once a view has been accepted and a power-down has withdrawn its power-up (R31, R83). -/
def State.withdrawn (s : State) (b : BayId) (v : View) (levels : Half) : State :=
  (s.acceptTold b v levels).powerOnAborted b

section Withdrawn

variable (s : State) (b : BayId) (v : View) (levels : Half)

theorem State.withdrawn_bay :
    (s.withdrawn b v levels).bay b = { s.bay b with
      accepted := v.accept (s.bay b).accepted levels, candidate := none, slot := (s.bay b).slot.afterPowerDown } := by
  rw [State.withdrawn, State.powerOnAborted_bay, State.acceptTold_bay]

theorem State.withdrawn_tells :
    (s.withdrawn b v levels).TellsAs (s.enqueueAll (.bay b)
      (acceptanceDetails (s.bay b).accepted (v.accept (s.bay b).accepted levels) ++
        (s.bay b).slot.powerDownDetails)) := by
  have htold := (s.acceptTold b v levels).powerOnAborted_tells b
  rw [State.acceptTold_bay] at htold
  rw [State.enqueueAll_append]
  exact htold.trans ((s.acceptTold_tells b v levels).enqueueAll _ _)

theorem State.withdrawn_shell : (s.withdrawn b v levels).shell = s.shell := by
  rw [State.withdrawn, State.powerOnAborted_shell, State.acceptTold_shell]

theorem State.withdrawn_writeUnderWay : (s.withdrawn b v levels).writeUnderWay b = s.writeUnderWay b :=
  State.writeUnderWay_of_engine (by rw [State.withdrawn, State.powerOnAborted_engine, State.acceptTold_engine])

theorem State.powerDown_withdrawn : (s.acceptTold b v levels).powerDown b = (s.withdrawn b v levels).powerDown b :=
  State.powerDown_aborts _ b

theorem State.withdrawn_not_powerOn : ((s.withdrawn b v levels).bay b).slot.runs .powerOn = false := by
  rw [State.withdrawn_bay]
  exact Slot.afterPowerDown_not_powerOn _

end Withdrawn

section PowerDown

variable {s : State} {b : BayId} {v : View} {levels : Half} (hp : (s.bay b).power.powered = true)
  (h : (v.present = false ∧ (s.bay b).accepted.present = true ∧ (s.bay b).config.surpriseOff = true) ∨
    (v.latchClosed = false ∧ (s.bay b).accepted.latchClosed = true ∧ (s.bay b).config.latchOff = true))
  (hw : s.writeUnderWay b = false)
include hp h hw

/-- An acceptance whose power-down has a drain step to wait for (R32, R36, R37). -/
theorem State.acceptView_steps {st : SeqStep} (hc : drainCase (s.bay b).confirmedImage = some st)
    (hg : (s.bay b).reached ((s.bay b).drainGen st) = false) :
    s.acceptView b v levels = ((s.withdrawn b v levels).drainBegun b).drainStep b st := by
  have hbay := s.withdrawn_bay b v levels
  have hdown : (s.acceptTold b v levels).powerDown b = ((s.withdrawn b v levels).drainBegun b).drainStep b st := by
    rw [State.powerDown_withdrawn, State.powerDown_steps (s.withdrawn_not_powerOn b v levels)
      ((s.withdrawn_writeUnderWay b v levels).trans hw) (by rw [hbay]; exact hc) (by rw [hbay]; exact hg)]
  have hleft := State.drainStep_bay ((s.withdrawn b v levels).drainBegun b) b st
  rw [State.drainBegun_bay, hbay, ← hdown] at hleft
  rw [State.acceptView_drains hp h (fun _ => by rw [hleft]; rfl) (by rw [hleft]; rfl), hdown]

/-- An acceptance whose power-down finds no output on (R32, R36, R37). -/
theorem State.acceptView_done (hc : drainCase (s.bay b).confirmedImage = none) :
    s.acceptView b v levels = ((s.withdrawn b v levels).drainBegun b).drainDone b := by
  have hbay := s.withdrawn_bay b v levels
  have hbegun := (s.withdrawn b v levels).drainBegun_bay b
  rw [hbay] at hbegun
  have hdown : (s.acceptTold b v levels).powerDown b = ((s.withdrawn b v levels).drainBegun b).drainDone b := by
    rw [State.powerDown_withdrawn, State.powerDown_done (s.withdrawn_not_powerOn b v levels)
      ((s.withdrawn_writeUnderWay b v levels).trans hw) (by rw [hbay]; exact hc)]
  have hleft : v.present = false → (((s.acceptTold b v levels).powerDown b).bay b).power.powered = false := fun hgone =>
    hdown ▸ State.drainDone_unpowered (State.heldReady_of_absent (by rw [hbegun]; exact hgone))
  have hacc : (((s.acceptTold b v levels).powerDown b).bay b).accepted = v.accept (s.bay b).accepted levels := by
    rw [hdown, (((s.withdrawn b v levels).drainBegun b).drainDone_keptByCooldown b).accepted, hbegun]
  rw [State.acceptView_drains hp h hleft hacc, hdown]

end PowerDown

/-- Settles O45: the confirming read accepts its view, and the hand-offs end in one power-down or one power-up. -/
theorem acceptanceActs : Obligations.AcceptanceActs := by
  intro n e a c input output direction s hw hk hn hl hwait hm hf x v acc slot told hc hphase hview
  have hread := exec_inputReadComplete_accepts hw hk hn hl hwait hm hf hc hphase hview
  rw [← hview] at hread
  refine ⟨fun hoff hpower => ?_, fun hpres hlatch hnew hpower hauto m hclass hprofile => ?_⟩
  · obtain ⟨t, r, hexec, ha, hrbay, hreng, hrtells, hrshell, helse, hshell⟩ := hread (hpower.imp_right .inl)
    have hpowered : (r.bay e.bay).power.powered = true := by
      rw [hrbay]
      change x.power.powered = true
      rcases hpower with ⟨hp, -⟩ | ⟨hp | hp, -⟩ <;> rw [hp] <;> rfl
    have hidle : r.writeUnderWay e.bay = false := by rw [State.writeUnderWay, hreng]; rfl
    obtain ⟨k, hk⟩ : ∃ k, k = r.withdrawn e.bay v input := ⟨_, rfl⟩
    have hbay : (k.drainBegun e.bay).bay e.bay = { x.readQuietly s.millis input with
        accepted := acc, candidate := none, slot := slot, power := .drain, timer := none, step := none,
        stepGen := none } := by
      rw [State.drainBegun_bay, hk, State.withdrawn_bay, hrbay]; rfl
    have htells : (k.drainBegun e.bay).TellsAs told := by
      have htold := r.withdrawn_tells e.bay v input
      rw [← hk, hrbay] at htold
      exact (k.drainBegun_tells e.bay).trans
        (htold.trans ((hrtells.trans (s.modifyBay_tells e.bay _).symm).enqueueAll _ _))
    refine ⟨fun st hcase hgen => ⟨t, hexec, ?_⟩, fun hcase => ⟨t, hexec, ?_⟩⟩
    · rw [State.acceptView_steps hpowered (by rw [hrbay]; exact hoff) hidle (by rw [hrbay]; exact hcase)
        (by rw [hrbay]; exact hgen), ← hk] at ha
      have hstep := (ha.bay _).trans ((k.drainBegun e.bay).drainStep_bay e.bay st)
      rw [hbay] at hstep
      rw [hstep]
      exact ⟨rfl, rfl, rfl, rfl, rfl, rfl, (ha.tells.trans ((State.drainStep_tells _ e.bay st).trans htells)).events,
        helse, hshell⟩
    · rw [State.acceptView_done hpowered (by rw [hrbay]; exact hoff) hidle (by rw [hrbay]; exact hcase), ← hk] at ha
      have hcools : (k.drainBegun e.bay).CoolsAs told e.bay := by
        refine .of_shell htells.events ?_ ?_
        · rw [hbay, State.enqueueAll_bay, State.modifyBay_bay_self]; rfl
        · rw [State.drainBegun, State.modifyBay_shell, hk, State.withdrawn_shell, hrshell, State.enqueueAll_shell,
            State.modifyBay_shell]
      refine ⟨ha.coolEntered (hcools.coolEntered (State.drainDone_entered _ e.bay)), ?_, helse, hshell⟩
      rw [ha.bay, ((k.drainBegun e.bay).drainDone_keptByCooldown e.bay).accepted, hbay]
  · obtain ⟨t, r, hexec, ha, hrbay, -, hrtells, hrshell, helse, hshell⟩ := hread (.inr (.inr hpower))
    have hbay := r.acceptTold_bay e.bay v input
    have htells := r.acceptTold_tells e.bay v input
    rw [hrbay] at hbay htells
    have hclassMap : (r.acceptTold e.bay v input).classMap = s.classMap :=
      congrArg Shell.classMap ((r.acceptTold_shell e.bay v input).trans hrshell)
    have hprof : (r.acceptTold e.bay v input).classProfile e.bay = s.classMap[m.toNat] := by
      rw [State.classProfile_of_class (by rw [hbay]; exact hclass), hclassMap]
    have hready := (State.autoStartReady_iff _ _).mpr
      ⟨by rw [hbay]; exact hauto, by rw [hbay]; exact hpres, by rw [hbay]; exact hlatch, by rw [hprof]; exact hprofile⟩
    rw [State.acceptView_starts hpres hlatch (by rw [hrbay]; exact hnew) (by rw [hrbay]; exact hpower) hready] at ha
    obtain ⟨tm, g, hup⟩ := (r.acceptTold e.bay v input).beginPowerUp_bay e.bay
    rw [← ha.bay, hprof, hbay, rampUpdate_eq] at hup
    refine ⟨t, hexec, ?_⟩
    rw [hup]
    exact ⟨rfl, rfl, rfl, rfl, rfl, (ha.tells.trans ((State.beginPowerUp_tells _ e.bay).trans
      (htells.trans (hrtells.enqueueAll _ _)))).events, helse, hshell⟩

end Sys2Proof.Machine

/-! # Refused commands (R51 to R57, R176) -/

namespace Sys2Proof.Machine

/-! ## The checks of a bay command word (R51 to R56) -/

/-- The checks do not read the port's frame. -/
theorem State.commandCheck_afterWord (s : State) (a : Addr) (b : BayId) (c : BayCommand) (args : CommandArgs) :
    (s.afterWord a).commandCheck b c args = s.commandCheck b c args := rfl

/-- Check 1 (R52). -/
theorem State.commandCheck_badArgs {c : BayCommand} {args : CommandArgs} (ha : c.argsWellFormed args = false)
    (s : State) (b : BayId) : s.commandCheck b c args = some .badCommand := by
  simp [State.commandCheck, ha]

section WellFormedArgs

variable {s : State} {b : BayId} {c : BayCommand} {args : CommandArgs} (ha : c.argsWellFormed args = true)
include ha

/-- Check 2 (R53). -/
theorem State.commandCheck_notBound (hl : (s.bay b).link ≠ .bound) : s.commandCheck b c args = some .notBound := by
  simp [State.commandCheck, ha, hl]

/-- Check 3 (R54). -/
theorem State.commandCheck_busy (hl : (s.bay b).link = .bound) (hb : (s.bay b).slot.blocks c = true) :
    s.commandCheck b c args = some .busy := by
  simp [State.commandCheck, ha, hl, hb]

/-- Check 4 is the command's own (R55, R56). -/
theorem State.commandCheck_specific (hl : (s.bay b).link = .bound) (hb : (s.bay b).slot.blocks c = false) :
    s.commandCheck b c args = s.specificCheck b c := by
  simp [State.commandCheck, ha, hl, hb]

end WellFormedArgs

theorem Slot.blocks_of_idle {sl : Slot} (h : sl.inProgress = false) (c : BayCommand) : sl.blocks c = false := by
  simp [Slot.blocks, h]

theorem Slot.blocks_of_inProgress {sl : Slot} {c : BayCommand} (h : sl.inProgress = true)
    (hc : ¬ (c = .powerOff ∧ sl.code = some .powerOn)) : sl.blocks c = true := by
  simpa [Slot.blocks, h, ← not_and_or] using hc

/-- Test a of POWER_ON (R55). -/
theorem State.powerOnCheck_badState {s : State} {b : BayId} (hoff : (s.bay b).power ≠ .off)
    (hcool : (s.bay b).power ≠ .cool) (hdrain : (s.bay b).power ≠ .drain) :
    s.powerOnCheck b = some .badState := by
  simp [State.powerOnCheck, hoff, hcool, hdrain]

/-- Tests b to d of POWER_ON, where test a passes (R55). -/
theorem State.powerOnCheck_of_power {s : State} {b : BayId}
    (hw : (s.bay b).power = .off ∨ (s.bay b).power = .cool ∨ (s.bay b).power = .drain) :
    s.powerOnCheck b =
      if (s.bay b).accepted.present = false then some .noModule
      else if (s.bay b).accepted.latchClosed = false ∧ (s.bay b).config.latchOff = true then some .latchOpen
      else if s.classProfile b = none then some .classDenied
      else none := by
  have hpower : (!((s.bay b).power = .off || (s.bay b).power = .cool || (s.bay b).power = .drain)) = false := by
    rcases hw with h | h | h <;> rw [h] <;> rfl
  unfold State.powerOnCheck
  simp only [hpower, Bool.not_eq_true', Bool.or_eq_false_iff, Bool.not_eq_false', Option.isNone_iff_eq_none]
  rfl

theorem State.specificCheck_unlock_badState {s : State} {b : BayId} (hoff : (s.bay b).power ≠ .off)
    (hcool : (s.bay b).power ≠ .cool) (hfaulted : (s.bay b).power ≠ .faulted) :
    s.specificCheck b .unlock = some .badState := by
  simp [State.specificCheck, hoff, hcool, hfaulted]

theorem State.specificCheck_clearFault_badState {s : State} {b : BayId}
    (h : (s.bay b).power ≠ .faulted ∨ (s.bay b).live.fault = true) :
    s.specificCheck b .clearFault = some .badState := by
  rcases h with h | h <;> simp [State.specificCheck, h]

/-! ## What a refusal answers (R57, R176) -/

/-- A word that fails a check changes the last result and the result tag of the slot alone (R57). -/
theorem exec_bayCommand_refused {s : State} {b : BayId} {c : BayCommand} {args : CommandArgs} {r : CommandResult}
    (ht : s.takesWord (Reg.bay b .command).addr = true) (h : s.commandCheck b c args = some r) (tag : Byte) :
    exec (bayCommandOf c b tag args) s =
      .next ((s.afterWord (Reg.bay b .command).addr).modifyBay b fun y =>
        { y with slot := { y.slot with lastResult := r, resultTag := tag } }) := by
  refine exec_bayCommand_quiet ht c tag args ?_ rfl
  rw [State.takeCommand, State.commandCheck_afterWord, h]
  rfl

/-- The codes that name no bay command (R52). -/
theorem BayCommand.ofCode_undefined {code : BitVec 4} (h : code = 0 ∨ 8 < code.toNat) :
    BayCommand.ofCode code = none := by
  revert code; decide

theorem State.takeCommandCode_undefined {code : BitVec 4} (h : code = 0 ∨ 8 < code.toNat) (s : State) (b : BayId)
    (tag : Byte) (args : CommandArgs) :
    s.takeCommandCode b code tag args = s.refuseCommand b .badCommand tag := by
  rw [State.takeCommandCode, BayCommand.ofCode_undefined h]

/-- A register word that tells nothing answers the state that its owner gives. -/
theorem State.wordEvent_answers {s t : State} {a : Addr} {owner : State → State} (ht : s.takesWord a = true)
    (h : owner (s.afterWord a) = t) (he : t.events = s.events) : s.wordEvent a owner = .next t := by
  rw [State.wordEvent_quiet s a owner ht (by rw [h, he]), h]

/-- A word with such a code is refused as one that fails check 1 (R52, R57). -/
theorem exec_undefinedBayCommand_refused {s : State} {b : BayId} {code : BitVec 4}
    (ht : s.takesWord (Reg.bay b .command).addr = true) (h : code = 0 ∨ 8 < code.toNat) (tag : Byte)
    (args : CommandArgs) :
    exec (.undefinedBayCommand b code tag args) s =
      .next ((s.afterWord (Reg.bay b .command).addr).refuseCommand b .badCommand tag) :=
  State.wordEvent_answers (owner := fun t => t.takeCommandCode b code tag args) ht
    (State.takeCommandCode_undefined h _ b tag args) (State.refuseCommand_events _ b _ tag)

/-- A global command word with an undefined code is answered in the global command status alone (R176). -/
theorem exec_undefinedGlobalCommand_answers {s : State} {code : BitVec 4}
    (ht : s.takesWord Reg.globalCommand.addr = true) (h1 : code ≠ 1) (h2 : code ≠ 2) (m : BusMask) (tag : Byte) :
    exec (.undefinedGlobalCommand code m tag) s =
      .next ((s.afterWord Reg.globalCommand.addr).answerGlobal code .badCommand tag) :=
  State.wordEvent_answers (owner := fun t => t.takeGlobal code m tag) ht
    (by rw [State.takeGlobal, if_neg h1, if_neg h2]) (State.answerGlobal_events _ code _ tag)

/-- Settles O29: one check of R51 after the other, and the codes that name no command. -/
theorem commandsRefused : Obligations.CommandsRefused := by
  refine ⟨?_, fun b code tag args s ht h => exec_undefinedBayCommand_refused ht h tag args,
    fun code m tag s ht h1 h2 => exec_undefinedGlobalCommand_answers ht h1 h2 m tag⟩
  intro c b tag args s ht x refused
  have hrefused : ∀ {r}, s.commandCheck b c args = some r → refused r := fun h => exec_bayCommand_refused ht h tag
  refine ⟨fun ha => hrefused (State.commandCheck_badArgs ha s b),
    fun ha hl => hrefused (State.commandCheck_notBound ha hl),
    fun ha hl hp hc => hrefused (State.commandCheck_busy ha hl (Slot.blocks_of_inProgress hp hc)),
    fun ha hl hi => ?_⟩
  have hspecific : ∀ {r}, s.specificCheck b c = some r → refused r := fun h =>
    hrefused ((State.commandCheck_specific ha hl (Slot.blocks_of_idle hi c)).trans h)
  refine ⟨?_, ?_, ?_, ?_⟩
  · rintro rfl hoff hcool hdrain
    exact hspecific (State.powerOnCheck_badState hoff hcool hdrain)
  · rintro rfl hw
    have hcheck : s.specificCheck b .powerOn = _ := State.powerOnCheck_of_power hw
    refine ⟨fun hp => hspecific ?_, fun hp hlatch hoff => hspecific ?_, fun hp hlatch hclass => hspecific ?_⟩
    · rw [hcheck, if_pos hp]
    · rw [hcheck, if_neg (by simpa using hp), if_pos ⟨hlatch, hoff⟩]
    · have hshut : ¬ ((s.bay b).accepted.latchClosed = false ∧ (s.bay b).config.latchOff = true) := fun h => by
        rcases hlatch with hlatch | hlatch
        · exact Bool.false_ne_true (h.1.symm.trans hlatch)
        · exact Bool.false_ne_true (hlatch.symm.trans h.2)
      rw [hcheck, if_neg (by simpa using hp), if_neg hshut, if_pos hclass]
  · rintro rfl hoff hcool hfaulted
    exact hspecific (State.specificCheck_unlock_badState hoff hcool hfaulted)
  · rintro rfl h
    exact hspecific (State.specificCheck_clearFault_badState h)

end Sys2Proof.Machine

/-! # SET_IND, LOCK, UNLOCK, SET_AUX and REFRESH (R60, R64 to R67, R69) -/

namespace Sys2Proof.Machine

/-! ## The acceptance of a word with arguments (R51, R58) -/

/-- A command whose arguments are well formed, which finds the slot free and passes its own check, is accepted. -/
theorem State.takeCommand_accepted {s : State} {b : BayId} {c : BayCommand} {args : CommandArgs}
    (ha : c.argsWellFormed args = true) (hl : (s.bay b).link = .bound) (hi : (s.bay b).slot.inProgress = false)
    (hc : s.specificCheck b c = none) (tag : Byte) :
    s.takeCommand b c tag args = (s.takeSlot b c tag).firstEffect b c args false := by
  have hcheck : s.commandCheck b c args = none :=
    (State.commandCheck_specific ha hl (Slot.blocks_of_idle hi c)).trans hc
  unfold State.takeCommand State.acceptCommand State.overtakePowerOn
  rw [hcheck]
  simp [Slot.runs_of_idle hi]

@[simp] theorem State.takeSlot_bay (s : State) (b : BayId) (c : BayCommand) (tag : Byte) :
    (s.takeSlot b c tag).bay b = { s.bay b with slot := Slot.holding c tag none } := s.modifyBay_bay_self b _

theorem State.specificCheck_unlock {s : State} {b : BayId}
    (hw : (s.bay b).power = .off ∨ (s.bay b).power = .cool ∨ (s.bay b).power = .faulted) :
    s.specificCheck b .unlock = none := by
  rcases hw with h | h | h <;> simp [State.specificCheck, h]

/-! ## The update of an output command (R11, R60) -/

/-- The target generation that results from an update of the target to `i` (R11). -/
def Bay.genAfter (x : Bay) (i : Image) : Half := if i = x.target then x.targetGen else x.targetGen + 1

/-- An engine that is disabled or FAILED queues no request (R111). -/
theorem State.requestWrite_refused {s : State} {b : BayId} (h : (s.engine (busOf b)).takes = false) (u : Bool) :
    s.requestWrite b u = s :=
  if_neg (by simp [h])

/-- An update of a BOUND bay requests one write where it changes a field and the engine takes requests (R11, R110,
R111). -/
theorem State.updateTarget_boundQueue {s : State} {b : BayId} (hl : (s.bay b).link = .bound) (f : Image → Image)
    (u : Bool) :
    ((s.updateTarget b f u).engine (busOf b)).queue =
      if f (s.bay b).target ≠ (s.bay b).target ∧ (s.engine (busOf b)).takes = true
      then queueWrite (s.engine (busOf b)).queue b u else (s.engine (busOf b)).queue := by
  by_cases hf : f (s.bay b).target = (s.bay b).target
  · rw [State.updateTarget_of_eq hf, if_neg fun h => h.1 hf]
  · cases ht : (s.engine (busOf b)).takes with
    | true => rw [State.updateTarget_queue hf hl ht, if_pos ⟨hf, rfl⟩]
    | false =>
      rw [State.updateTarget, if_neg hf, State.requestWrite_refused (by rw [State.modifyBay_engine]; exact ht),
        State.modifyBay_engine, if_neg (by simp)]

/-- An output command in the slot, its update made and the resulting generation awaited, but not yet tested (R60). -/
def State.outputAsked (s : State) (b : BayId) (c : BayCommand) (tag : Byte) (f : Image → Image) : State :=
  ((s.takeSlot b c tag).updateTarget b f false).modifyBay b fun y =>
    { y with slot := { y.slot with awaited := some ((s.bay b).genAfter (f (s.bay b).target)) } }

section OutputAsked

variable (s : State) (b : BayId) (c : BayCommand) (tag : Byte) (f : Image → Image)

theorem State.outputEffect_takeSlot :
    (s.takeSlot b c tag).outputEffect b f = (s.outputAsked b c tag f).awaitedTest b := by
  have hgen : (((s.takeSlot b c tag).updateTarget b f false).bay b).targetGen =
      (s.bay b).genAfter (f (s.bay b).target) := by
    rw [State.updateTarget_bay, State.takeSlot_bay]
    rfl
  rw [State.outputEffect, State.await, hgen]
  rfl

@[simp] theorem State.outputAsked_bay :
    (s.outputAsked b c tag f).bay b = { s.bay b with
      target := f (s.bay b).target, targetGen := (s.bay b).genAfter (f (s.bay b).target),
      slot := Slot.holding c tag (some ((s.bay b).genAfter (f (s.bay b).target))) } := by
  rw [State.outputAsked, State.modifyBay_bay_self, State.updateTarget_bay, State.takeSlot_bay]
  rfl

theorem State.outputAsked_tells : (s.outputAsked b c tag f).TellsAs s :=
  (State.modifyBay_tells _ b _).trans
    (((s.takeSlot b c tag).updateTarget_tells b f false).trans (s.modifyBay_tells b _))

theorem State.outputAsked_queue (hl : (s.bay b).link = .bound) :
    ((s.outputAsked b c tag f).engine (busOf b)).queue =
      if f (s.bay b).target ≠ (s.bay b).target ∧ (s.engine (busOf b)).takes = true
      then queueWrite (s.engine (busOf b)).queue b false else (s.engine (busOf b)).queue := by
  have hqueue := State.updateTarget_boundQueue (s := s.takeSlot b c tag) (b := b)
    (by rw [State.takeSlot_bay]; exact hl) f false
  rw [State.takeSlot_bay] at hqueue
  exact hqueue

end OutputAsked

/-! ## The test at acceptance (R60) -/

/-- A command that awaits a generation ends DONE where that is reached, and waits on otherwise (R60). -/
theorem State.awaitedTest_holding {s : State} {b : BayId} {c : BayCommand} {tag : Byte} {g : Half}
    (h : (s.bay b).slot = Slot.holding c tag (some g)) (hc : c ≠ .clearFault) :
    s.awaitedTest b =
      if (s.bay b).reached g then
        (s.modifyBay b fun x => { x with slot := Slot.ended c tag .done }).enqueue (.bay b) (.command c tag .done)
      else s := by
  cases hg : (s.bay b).reached g with
  | false => exact State.awaitedTest_waits h hg
  | true =>
    rw [State.awaitedTest_done h hg hc,
      State.completeCommand_of_runs (c := c) (by rw [h, Slot.holding_runs]; exact decide_eq_true rfl), h]
    refine congrArg (fun v : State => v.enqueue (.bay b) _) (State.modifyBay_congr ?_)
    rw [h]
    rfl

/-- What an accepted output command answers: one update of the target to `i`, and the wait for its generation, or
DONE where that is reached already (R60). -/
def State.OutputAnswers (s : State) (b : BayId) (c : BayCommand) (tag : Byte) (args : CommandArgs) (i : Image) : Prop :=
  ∃ t, exec (bayCommandOf c b tag args) s = .next t ∧
    t.bay b = { s.bay b with
      target := i, targetGen := (s.bay b).genAfter i,
      slot := if (s.bay b).reached ((s.bay b).genAfter i) then Slot.ended c tag .done
        else Slot.holding c tag (some ((s.bay b).genAfter i)) } ∧
    (t.engine (busOf b)).queue = (if i ≠ (s.bay b).target ∧ (s.engine (busOf b)).takes = true
      then queueWrite (s.engine (busOf b)).queue b false else (s.engine (busOf b)).queue) ∧
    t.events = (if (s.bay b).reached ((s.bay b).genAfter i)
      then (s.enqueue (.bay b) (.command c tag .done)).events else s.events) ∧
    s.SameElsewhere t b ∧ t.shell = (s.afterWord (Reg.bay b .command).addr).shell

/-- An accepted command whose first effect is the update `f` of the target. -/
theorem State.outputAnswers {s : State} {b : BayId} {c : BayCommand} {args : CommandArgs} {f : Image → Image}
    (ht : s.takesWord (Reg.bay b .command).addr = true) (hl : (s.bay b).link = .bound)
    (hi : (s.bay b).slot.inProgress = false) (ha : c.argsWellFormed args = true)
    (hcheck : s.specificCheck b c = none) (hc : c ≠ .clearFault)
    (heffect : ∀ u : State, (u.bay b).config = (s.bay b).config → (u.bay b).auxDirs = (s.bay b).auxDirs →
      u.firstEffect b c args false = u.outputEffect b f) (tag : Byte) :
    s.OutputAnswers b c tag args (f (s.bay b).target) := by
  obtain ⟨s', hs'⟩ : ∃ s', s' = s.afterWord (Reg.bay b .command).addr := ⟨_, rfl⟩
  have hx : s'.bay b = s.bay b := by rw [hs']; rfl
  have heng : s'.engine (busOf b) = s.engine (busOf b) := by rw [hs']; rfl
  have hport : s'.TellsAs s := by rw [hs']; exact ⟨rfl, rfl, rfl⟩
  obtain ⟨v, hv⟩ : ∃ v, v = s'.outputAsked b c tag f := ⟨_, rfl⟩
  have hvbay := s'.outputAsked_bay b c tag f
  have hvqueue := s'.outputAsked_queue b c tag f (by rw [hx]; exact hl)
  have hvtells := (s'.outputAsked_tells b c tag f).trans hport
  rw [← hv, hx] at hvbay
  rw [← hv, hx, heng] at hvqueue
  rw [← hv] at hvtells
  have hres : s'.takeCommand b c tag args = v.awaitedTest b := by
    rw [State.takeCommand_accepted ha (by rw [hx]; exact hl) (by rw [hx]; exact hi) (by rw [hs']; exact hcheck),
      heffect _ (by rw [State.takeSlot_bay, hx]) (by rw [State.takeSlot_bay, hx]), State.outputEffect_takeSlot, hv]
  obtain ⟨t, hexec, hans⟩ := exec_bayCommand_answers ht c tag args
  obtain ⟨helse, hshell⟩ := s.takeCommand_frame b c tag args
  refine ⟨t, hexec, ?_, ?_, ?_, hans.sameElsewhere helse, hans.shell.trans hshell⟩
  all_goals rw [← hs', hres, State.awaitedTest_holding (by rw [hvbay]) hc,
    show (v.bay b).reached _ = (s.bay b).reached _ by rw [hvbay]; rfl] at hans
  · rw [hans.bay]
    split
    · rw [State.enqueue_bay, State.modifyBay_bay_self, hvbay]
    · exact hvbay
  · rw [hans.engine, ← hvqueue]
    split <;> rfl
  · rw [hans.tells.events]
    split
    · exact (((v.modifyBay_tells b _).trans hvtells).enqueue _ _).events
    · exact hvtells.events

/-! ## REFRESH (R69) -/

theorem Waiters.join_refresh (w : Waiters) :
    w.join { Waiters.none with refresh := true } = { w with refresh := true } := by
  simp [Waiters.join, Waiters.none]

/-- Settles O32: an output command has one update and one test; a REFRESH has one request. -/
theorem outputAndRefreshAccepted : Obligations.OutputAndRefreshAccepted := by
  refine ⟨?_, fun b tag s ht hl hi htakes => ?_⟩
  · intro b tag args s ht x hl hi answers
    refine ⟨fun h0 h1 => ?_, ?_, fun hw => ?_, fun hp ha => ?_⟩
    · exact State.outputAnswers (f := setIndUpdate x.config args) ht hl hi
        (by simp [BayCommand.argsWellFormed, h0, h1]) rfl (by decide)
        (fun u hu _ => by rw [State.firstEffect, hu]) tag
    · exact State.outputAnswers (f := lockUpdate true) ht hl hi rfl rfl (by decide) (fun _ _ _ => rfl) tag
    · exact State.outputAnswers (f := lockUpdate false) ht hl hi rfl (State.specificCheck_unlock hw) (by decide)
        (fun _ _ _ => rfl) tag
    · exact State.outputAnswers (f := setAuxUpdate x.auxDirs args) ht hl hi
        (by simp [BayCommand.argsWellFormed, hp, ha]) rfl (by decide)
        (fun u _ hu => by rw [State.firstEffect, hu]) tag
  · obtain ⟨s', hs'⟩ : ∃ s', s' = s.afterWord (Reg.bay b .command).addr := ⟨_, rfl⟩
    have hx : s'.bay b = s.bay b := by rw [hs']; rfl
    have heng : (s'.takeSlot b .refresh tag).engine (busOf b) = s.engine (busOf b) := by rw [hs']; rfl
    have hres : s'.takeCommand b .refresh tag noArgs =
        (s'.takeSlot b .refresh tag).requestRead b { Waiters.none with refresh := true } :=
      State.takeCommand_idle (by rw [hx]; exact hl) (by rw [hx]; exact hi) rfl tag
    have hreq := (s'.takeSlot b .refresh tag).requestRead_engine b { Waiters.none with refresh := true }
    rw [heng, State.takeSlot_bay, hx, if_pos ⟨hl, htakes⟩] at hreq
    obtain ⟨t, hexec, hans⟩ := exec_bayCommand_answers ht .refresh tag noArgs
    obtain ⟨helse, hshell⟩ := s.takeCommand_frame b .refresh tag noArgs
    have helse' := hans.sameElsewhere helse
    have hshell' := hans.shell.trans hshell
    rw [← hs', hres] at hans
    refine ⟨t, hexec, ?_, ?_, ?_, ?_, helse', hshell'⟩
    · rw [hans.bay, State.requestRead_bay_ne, State.takeSlot_bay, hx]
    · rw [hans.engine, hreq]
      simp only [queueRead, Waiters.join_refresh]
      rfl
    · rw [hans.engine, hreq]
    · rw [hans.tells.events, State.requestRead_events, hs']
      rfl

end Sys2Proof.Machine

/-! # Reads that are asked for: debounce expiry, poll and alert (R80, R87, R88, R91) -/

namespace Sys2Proof.Machine

/-! ## A read among the requests of a bus (R109) -/

/-- A read of bay `b` that answers the waiters `w` is among `q` (R109). -/
def HasReadFor (q : List Entry) (b : BayId) (w : Waiters) : Prop :=
  ∃ e ∈ q, e.kind = .inputRead ∧ e.bay = b ∧ e.waiters.join w = e.waiters

theorem Waiters.join_self_right (v w : Waiters) : (v.join w).join w = v.join w := by
  simp [Waiters.join]

theorem Waiters.join_right_comm (u v w : Waiters) : (u.join v).join w = (u.join w).join v := by
  simp only [Waiters.join, Bool.or_right_comm _ _ (Waiters.refresh w), Bool.or_right_comm _ _ (Waiters.debounce w),
    Bool.or_right_comm _ _ (Waiters.sweep w)]

theorem Waiters.join_self (w : Waiters) : w.join w = w := by
  simp [Waiters.join]

theorem hasReadFor_queueRead (q : List Entry) (b : BayId) (w : Waiters) : HasReadFor (queueRead q b w) b w := by
  unfold queueRead
  split
  · next h =>
    obtain ⟨e, he, hr⟩ := List.any_eq_true.mp h
    obtain ⟨hk, hb⟩ : e.kind = .inputRead ∧ e.bay = b := by simpa [Entry.isRead] using hr
    refine ⟨_, List.mem_map.mpr ⟨e, he, rfl⟩, ?_⟩
    rw [if_pos hr]
    exact ⟨hk, hb, e.waiters.join_self_right w⟩
  · exact ⟨_, List.mem_append_right _ (List.mem_singleton_self _), rfl, rfl, w.join_self⟩

theorem HasReadFor.queueRead {q : List Entry} {c : BayId} {w : Waiters} (h : HasReadFor q c w) (b : BayId)
    (v : Waiters) : HasReadFor (queueRead q b v) c w := by
  obtain ⟨e, he, hk, hc, hw⟩ := h
  unfold Machine.queueRead
  split
  · refine ⟨_, List.mem_map.mpr ⟨e, he, rfl⟩, ?_⟩
    split
    · exact ⟨hk, hc, by rw [Waiters.join_right_comm, hw]⟩
    · exact ⟨hk, hc, hw⟩
  · exact ⟨e, List.mem_append_left _ he, hk, hc, hw⟩

theorem State.requestRead_hasReadFor (s : State) (b : BayId) (w : Waiters) (hl : (s.bay b).link = .bound)
    (ht : (s.engine (busOf b)).takes = true) : HasReadFor ((s.requestRead b w).engine (busOf b)).queue b w := by
  rw [State.requestRead_engine, if_pos ⟨hl, ht⟩]
  exact hasReadFor_queueRead _ b w

theorem HasReadFor.requestRead {s : State} {n : BusId} {c : BayId} {w : Waiters}
    (h : HasReadFor (s.engine n).queue c w) (b : BayId) (v : Waiters) :
    HasReadFor ((s.requestRead b v).engine n).queue c w := by
  by_cases hn : n = busOf b
  · subst hn
    rw [State.requestRead_engine]
    dsimp only
    split
    · exact h.queueRead b v
    · exact h
  · rwa [State.requestRead_engine_ne s b v n hn]

/-! ## The reads of a poll (R91) -/

/-- A request of a bay that is not BOUND is not queued (R111). -/
theorem State.requestRead_unbound {s : State} {b : BayId} (h : (s.bay b).link ≠ .bound) (w : Waiters) :
    s.requestRead b w = s :=
  if_neg (by simp [h])

theorem State.foldl_requestRead_unbound {s : State} (w : Waiters) {l : List BayId}
    (h : ∀ b ∈ l, (s.bay b).link ≠ .bound) : l.foldl (fun t b => t.requestRead b w) s = s := by
  induction l with
  | nil => rfl
  | cons b l ih =>
    rw [List.foldl_cons, State.requestRead_unbound (h b (List.mem_cons_self ..))]
    exact ih fun c hc => h c (List.mem_cons_of_mem b hc)

theorem State.foldl_hasReadFor {n : BusId} {c : BayId} {w : Waiters} (v : Waiters) (l : List BayId) {s : State}
    (h : HasReadFor (s.engine n).queue c w) :
    HasReadFor ((l.foldl (fun t b => t.requestRead b v) s).engine n).queue c w := by
  induction l generalizing s with
  | nil => exact h
  | cons b l ih => exact ih (h.requestRead b v)

/-- Among the bays asked for, each BOUND bay of a bus that takes requests has its read queued (R109, R111). -/
theorem State.foldl_requestRead_hasReadFor {c : BayId} (w : Waiters) {l : List BayId} {s : State}
    (hl : ∀ b ∈ l, busOf b = busOf c) (hc : c ∈ l) (hlink : (s.bay c).link = .bound)
    (ht : (s.engine (busOf c)).takes = true) :
    HasReadFor ((l.foldl (fun t b => t.requestRead b w) s).engine (busOf c)).queue c w := by
  induction l generalizing s with
  | nil => cases hc
  | cons b l ih =>
    have hwork : s.SweepWork (busOf c) (s.requestRead b w) :=
      hl b (List.mem_cons_self ..) ▸ s.requestRead_sweepWork b w
    rw [List.foldl_cons]
    rcases List.mem_cons.mp hc with rfl | hc
    · exact State.foldl_hasReadFor w l (s.requestRead_hasReadFor c w hlink ht)
    · exact ih (fun d hd => hl d (List.mem_cons_of_mem b hd)) hc (by rwa [hwork.bay]) (by rwa [hwork.takes])

theorem State.pollReads_sweepWork (s : State) (n : BusId) : s.SweepWork n (s.pollReads n) :=
  State.foldl_sweepWork n _ _ s fun b hb t => busOf_of_mem_baysOf n b hb ▸ t.requestRead_sweepWork b _

theorem State.pollReads_unbound {s : State} {n : BusId} (h : ∀ b : BayId, busOf b = n → (s.bay b).link ≠ .bound) :
    s.pollReads n = s :=
  State.foldl_requestRead_unbound _ fun b hb => h b (busOf_of_mem_baysOf n b hb)

theorem State.pollReads_hasReadFor {s : State} {b : BayId} (hl : (s.bay b).link = .bound)
    (ht : (s.engine (busOf b)).takes = true) : HasReadFor ((s.pollReads (busOf b)).engine (busOf b)).queue b .none :=
  State.foldl_requestRead_hasReadFor _ (busOf_of_mem_baysOf _) (mem_baysOf_busOf b) hl ht

/-- The poll timer restarted for another interval (R91). -/
def State.pollRestarted (s : State) (n : BusId) : State :=
  s.modifyEngine n fun e => { e with poll := pollTicks e.config.pollInterval }

theorem exec_pollTimerExpiry {s : State} {n : BusId} (hr : s.resetLow = false) (hp : (s.engine n).poll = some 0) :
    exec (.pollTimerExpiry n) s = .next ((s.pollReads n).pollRestarted n) := by
  have hexec : exec (.pollTimerExpiry n) s =
      s.event (if (s.engine n).poll = some 0 then (s.pollReads n).pollRestarted n else s) := rfl
  rw [hexec, if_pos hp]
  exact State.event_quiet s _ hr (s.pollReads_sweepWork n).events

/-! ## The debounce expiry (R80) -/

theorem exec_debounceExpiry {s : State} {b : BayId} {v : View} (hr : s.resetLow = false)
    (hc : (s.bay b).candidate = some { view := v, phase := .timing 0 }) :
    exec (.debounceExpiry b) s = .next (s.confirmCandidate b) := by
  have hdue : s.debounceDue b = true := by simp [State.debounceDue, hc]
  have hexec : exec (.debounceExpiry b) s = s.event (if s.debounceDue b then s.confirmCandidate b else s) := rfl
  rw [hexec, if_pos hdue]
  exact State.event_quiet s _ hr (State.requestRead_events _ b _)

/-! ## The alert (R87, R88) -/

theorem State.setAlert_sweepCondition_iff (s : State) (n : BusId) :
    (s.setAlert n true).sweepCondition n = true ↔
      (s.engine n).takes = true ∧ ∃ b : BayId, busOf b = n ∧ (s.bay b).link = .bound := by
  have halert : (s.setAlert n true).alerts[n] = true := by simp
  simp only [State.sweepCondition, halert, State.setAlert_engine, State.setAlert_bay, Bool.true_and,
    Bool.and_eq_true, List.any_eq_true]
  refine and_congr_right fun _ => exists_congr fun b => and_congr ?_ decide_eq_true_iff
  exact ⟨busOf_of_mem_baysOf n b, fun h => h ▸ mem_baysOf_busOf b⟩

theorem exec_xalertAsserted {s : State} {n : BusId} (hr : s.resetLow = false) (ha : s.alerts[n] = false) :
    exec (.xalertAsserted n) s = .next ((s.setAlert n true).evalSweep n) := by
  have hexec : exec (.xalertAsserted n) s = (s.setAlert n true).event ((s.setAlert n true).evalSweep n) := by
    change execXalertAsserted n s = _
    simp [execXalertAsserted, ha, hr]
  rw [hexec]
  exact State.event_quiet _ _ hr ((s.setAlert n true).evalSweep_sweepWork n).events

/-- An assertion that starts no sweep moves the level alone (R87). -/
theorem State.setAlert_evalSweep_rests {s : State} {n : BusId} (h : (s.engine n).sweep ≠ none ∨
      (s.engine n).takes = false ∨ ∀ b : BayId, busOf b = n → (s.bay b).link ≠ .bound) :
    (s.setAlert n true).evalSweep n = s.setAlert n true := by
  refine if_neg fun hstart => ?_
  rw [Bool.and_eq_true, decide_eq_true_iff, State.setAlert_sweepCondition_iff] at hstart
  obtain ⟨hsweep, htakes, b, hb, hl⟩ := hstart
  rcases h with h | h | h
  · exact h hsweep
  · rw [htakes] at h; cases h
  · exact h b hb hl

/-- Settles O37: each of the three events asks for its reads, and moves nothing else but what it names. -/
theorem debouncePollAndAlert : Obligations.DebouncePollAndAlert := by
  refine ⟨fun b v s hr hc hl ht => ?_, fun n s hr hp => ?_,
    fun n s hr => ⟨rfl, fun ha hs ht hb => ?_, fun ha h => ?_⟩⟩
  · have hbay : (s.confirmCandidate b).bay b =
        { s.bay b with candidate := some { view := v, phase := .confirming } } := by
      rw [State.confirmCandidate, State.requestRead_bay_ne, State.modifyBay_bay_self, hc]
      rfl
    obtain ⟨e, he, hk, heb, hw⟩ := State.requestRead_hasReadFor
      (s.modifyBay b fun x => { x with candidate := x.candidate.map fun c => { c with phase := .confirming } }) b
      { Waiters.none with debounce := true } (by rw [State.modifyBay_bay_self]; exact hl) ht
    refine ⟨_, exec_debounceExpiry hr hc, hbay, ⟨e, he, hk, heb, ?_⟩, State.requestRead_events _ b _,
      ⟨fun c hcb => s.confirmCandidate_bay_ne b c hcb, fun m hm => s.confirmCandidate_engine_ne b m hm⟩,
      s.confirmCandidate_shell b⟩
    rw [← hw]
    exact Bool.or_true _
  · have hwork := s.pollReads_sweepWork n
    have hengine : ((s.pollReads n).pollRestarted n).engine n = { (s.pollReads n).engine n with
        poll := pollTicks ((s.pollReads n).engine n).config.pollInterval } := State.modifyEngine_engine_self _ n _
    refine ⟨_, exec_pollTimerExpiry hr hp, ?_, fun b hb hl ht => ?_, fun hunbound => ?_, hwork.bays, hwork.events,
      ⟨fun c _ => hwork.bay c, fun m hm => ?_⟩, hwork.shell⟩
    · rw [hengine, hwork.engine]
      rfl
    · subst hb
      obtain ⟨e, he, hk, heb, -⟩ := State.pollReads_hasReadFor hl ht
      rw [hengine]
      exact ⟨e, he, hk, heb⟩
    · rw [hengine, State.pollReads_unbound hunbound]
    · exact (State.modifyEngine_engine_ne _ n m _ hm).trans (hwork.other m hm)
  · have hcond := (s.setAlert_sweepCondition_iff n).mpr ⟨ht, hb⟩
    have hstart : (s.setAlert n true).evalSweep n = (s.setAlert n true).startSweep n := if_pos (by simp [hs, hcond])
    have hwork := (s.setAlert n true).startSweep_sweepWork n
    obtain ⟨hsweep, hreads⟩ := State.startSweep_started _ n hcond
    simp only [hwork.bay, State.setAlert_bay] at hsweep hreads
    refine ⟨_, exec_xalertAsserted hr ha, ?_⟩
    rw [hstart]
    exact ⟨hsweep, hreads, congrArg Shell.alerts hwork.shell, hwork.bays, hwork.events,
      fun c _ => hwork.bay c, fun m hm => hwork.other m hm⟩
  · rw [exec_xalertAsserted hr ha, State.setAlert_evalSweep_rests h]
    rfl

end Sys2Proof.Machine

/-! # What the work of the Sequencer leaves alone

The Sequencer and the debounce rules move neither what a read has sampled nor any field of an engine but its queue. -/

namespace Sys2Proof.Machine

/-- From `s` to `t` every bay keeps its sampled image and its live inputs, and every bus all but its queue. -/
structure State.SequencerWork (s t : State) : Prop where
  sampled : ∀ c, (t.bay c).sampled = (s.bay c).sampled
  live : ∀ c, (t.bay c).live = (s.bay c).live
  engine : ∀ n, t.engine n = { s.engine n with queue := (t.engine n).queue }

theorem State.SequencerWork.refl (s : State) : s.SequencerWork s := ⟨fun _ => rfl, fun _ => rfl, fun _ => rfl⟩

theorem State.SequencerWork.trans {s t u : State} (h : s.SequencerWork t) (h' : t.SequencerWork u) :
    s.SequencerWork u where
  sampled c := (h'.sampled c).trans (h.sampled c)
  live c := (h'.live c).trans (h.live c)
  engine n := by
    have hu := h'.engine n
    rw [h.engine n] at hu
    exact hu

theorem State.SequencerWork.ite {s t u : State} {c : Prop} [Decidable c] (h : s.SequencerWork t)
    (h' : s.SequencerWork u) : s.SequencerWork (if c then t else u) := by
  split
  · exact h
  · exact h'

theorem State.SequencerWork.sweep {s t : State} (h : s.SequencerWork t) (n : BusId) :
    (t.engine n).sweep = (s.engine n).sweep := by
  rw [h.engine n]

/-! ## The shared operations -/

theorem State.enqueue_sequencerWork (s : State) (src : Source) (d : Detail) : s.SequencerWork (s.enqueue src d) :=
  ⟨fun _ => rfl, fun _ => rfl, fun _ => rfl⟩

theorem State.modifyBay_sequencerWork (s : State) (b : BayId) (f : Bay → Bay)
    (hs : ∀ x, (f x).sampled = x.sampled := by exact fun _ => rfl)
    (hl : ∀ x, (f x).live = x.live := by exact fun _ => rfl) : s.SequencerWork (s.modifyBay b f) where
  sampled c := by
    rw [State.modifyBay_bay]
    split
    · next h => rw [hs, h]
    · rfl
  live c := by
    rw [State.modifyBay_bay]
    split
    · next h => rw [hl, h]
    · rfl
  engine _ := rfl

theorem State.modifyEngine_sequencerWork (s : State) (n : BusId) (f : Engine → Engine)
    (hf : ∀ e, f e = { e with queue := (f e).queue } := by exact fun _ => rfl) :
    s.SequencerWork (s.modifyEngine n f) where
  sampled _ := rfl
  live _ := rfl
  engine m := by
    rw [State.modifyEngine_engine]
    split
    · next h => rw [h]; exact hf _
    · rfl

theorem State.requestRead_sequencerWork (s : State) (b : BayId) (w : Waiters) :
    s.SequencerWork (s.requestRead b w) :=
  .ite (s.modifyEngine_sequencerWork _ _) (.refl s)

theorem State.requestWrite_sequencerWork (s : State) (b : BayId) (u : Bool) :
    s.SequencerWork (s.requestWrite b u) :=
  .ite (s.modifyEngine_sequencerWork _ _) (.refl s)

theorem State.updateTarget_sequencerWork (s : State) (b : BayId) (f : Image → Image) (u : Bool) :
    s.SequencerWork (s.updateTarget b f u) :=
  .ite (.refl s) ((s.modifyBay_sequencerWork b _).trans (State.requestWrite_sequencerWork _ b u))

theorem State.completeCommand_sequencerWork (s : State) (b : BayId) (r : CommandResult) :
    s.SequencerWork (s.completeCommand b r) := by
  have hslot : s.SequencerWork (s.modifyBay b fun x => { x with slot := { (s.bay b).slot with
      inProgress := false, awaited := none, lastResult := r, resultTag := (s.bay b).slot.tag } }) :=
    s.modifyBay_sequencerWork b _
  unfold State.completeCommand
  refine .ite ?_ (.refl s)
  split
  · exact hslot
  · exact hslot.trans (State.enqueue_sequencerWork _ _ _)

theorem State.startTimer_sequencerWork (s : State) (b : BayId) (p : SeqPurpose) (n : Nat) :
    s.SequencerWork (s.startTimer b p n) :=
  s.modifyBay_sequencerWork b _

/-! ## Power-up and cooldown (R24 to R35) -/

theorem State.rampWaitEnd_sequencerWork (s : State) (b : BayId) : s.SequencerWork (s.rampWaitEnd b) := by
  unfold State.rampWaitEnd
  dsimp only
  split
  · exact s.startTimer_sequencerWork b _ _
  · exact (s.startTimer_sequencerWork b _ _).trans (State.requestRead_sequencerWork _ b _)

theorem State.beginPowerUp_sequencerWork (s : State) (b : BayId) : s.SequencerWork (s.beginPowerUp b) := by
  unfold State.beginPowerUp
  refine .trans ?_ (.ite (State.rampWaitEnd_sequencerWork _ b) (.refl _))
  exact ((s.modifyBay_sequencerWork b _).trans (State.updateTarget_sequencerWork _ b _ _)).trans
    (State.modifyBay_sequencerWork _ b _)

theorem State.autoStart_sequencerWork (s : State) (b : BayId) : s.SequencerWork (s.autoStart b) :=
  .ite (s.beginPowerUp_sequencerWork b) (.refl s)

theorem State.endOfRamp_sequencerWork (s : State) (b : BayId) : s.SequencerWork (s.endOfRamp b) := by
  unfold State.endOfRamp
  exact ((s.updateTarget_sequencerWork b _ _).trans (State.modifyBay_sequencerWork _ b _)).trans
    (.ite (State.startTimer_sequencerWork _ b _ _) (.refl _))

theorem State.enterOff_sequencerWork (s : State) (b : BayId) : s.SequencerWork (s.enterOff b) := by
  unfold State.enterOff
  exact ((s.modifyBay_sequencerWork b _).trans (State.enqueue_sequencerWork _ _ _)).trans
    (State.autoStart_sequencerWork _ b)

theorem State.abandonHeld_sequencerWork (s : State) (b : BayId) : s.SequencerWork (s.abandonHeld b) :=
  .ite ((s.modifyBay_sequencerWork b _).trans (State.completeCommand_sequencerWork _ b _)) (.refl s)

theorem State.cooldownEnds_sequencerWork (s : State) (b : BayId) : s.SequencerWork (s.cooldownEnds b) := by
  unfold State.cooldownEnds
  exact (s.abandonHeld_sequencerWork b).trans
    (.ite (State.beginPowerUp_sequencerWork _ b) (State.enterOff_sequencerWork _ b))

theorem State.enterCool_sequencerWork (s : State) (b : BayId) (cause : Option StateCause) :
    s.SequencerWork (s.enterCool b cause) := by
  unfold State.enterCool
  refine .trans ?_ (.ite (State.cooldownEnds_sequencerWork _ b) (State.startTimer_sequencerWork _ b _ _))
  refine .trans ?_ (State.enqueue_sequencerWork _ _ _)
  refine .trans ?_ (.ite (State.abandonHeld_sequencerWork _ b) (.refl _))
  refine .trans ?_ (.ite (State.completeCommand_sequencerWork _ b _) (.refl _))
  exact ((s.modifyBay_sequencerWork b _).trans (State.updateTarget_sequencerWork _ b _ _)).trans
    (State.modifyBay_sequencerWork _ b _)

/-! ## Power-down and faults (R31 to R33, R42 to R46) -/

theorem State.drainDone_sequencerWork (s : State) (b : BayId) : s.SequencerWork (s.drainDone b) := by
  unfold State.drainDone
  exact (s.updateTarget_sequencerWork b _ _).trans (State.enterCool_sequencerWork _ b _)

theorem State.drainStep_sequencerWork (s : State) (b : BayId) (st : SeqStep) : s.SequencerWork (s.drainStep b st) := by
  unfold State.drainStep
  exact (s.updateTarget_sequencerWork b _ _).trans (State.modifyBay_sequencerWork _ b _)

theorem State.drainCompute_sequencerWork (fuel : Nat) (s : State) (b : BayId) :
    s.SequencerWork (State.drainCompute fuel s b) := by
  induction fuel using Nat.strongRecOn generalizing s with
  | ind fuel ih =>
    unfold State.drainCompute
    split
    · exact s.drainDone_sequencerWork b
    · next st _ =>
      refine (s.drainStep_sequencerWork b st).trans (.ite (.ite (State.enterCool_sequencerWork _ b _)
        (.ite ?_ (State.startTimer_sequencerWork _ b _ _))) (.refl _))
      split
      · exact .refl _
      · next k => exact ih k (Nat.lt_succ_self k) _

theorem State.powerDown_sequencerWork (s : State) (b : BayId) : s.SequencerWork (s.powerDown b) := by
  unfold State.powerDown
  refine .trans ?_ (.ite (.refl _) (State.drainCompute_sequencerWork _ _ b))
  exact State.SequencerWork.trans (.ite (s.completeCommand_sequencerWork b _) (.refl s))
    (State.modifyBay_sequencerWork _ b _)

theorem State.takeFault_sequencerWork (s : State) (b : BayId) (kind : FaultKind) :
    s.SequencerWork (s.takeFault b kind) := by
  unfold State.takeFault
  refine .trans (.trans (.trans ?_ (.ite (State.completeCommand_sequencerWork _ b _) (.refl _)))
    (State.enqueue_sequencerWork _ _ _)) (State.enqueue_sequencerWork _ _ _)
  exact (s.updateTarget_sequencerWork b _ _).trans (State.modifyBay_sequencerWork _ b _)

theorem State.judgeLive_sequencerWork (s : State) (b : BayId) (before : Bool) :
    s.SequencerWork (s.judgeLive b before) := by
  have hnote : s.SequencerWork
      (if (s.bay b).live.fault then s else s.modifyBay b fun x => { x with idleNote := false }) :=
    .ite (.refl s) (s.modifyBay_sequencerWork b _)
  unfold State.judgeLive
  dsimp only
  generalize (if (s.bay b).live.fault then s else s.modifyBay b fun x => { x with idleNote := false }) = s0 at *
  have hfault : ∀ kind, s.SequencerWork (s0.takeFault b kind) := fun kind =>
    hnote.trans (s0.takeFault_sequencerWork b kind)
  have hidle := (hnote.trans (s0.modifyBay_sequencerWork b fun x => { x with idleNote := true })).trans
    (State.enqueue_sequencerWork _ (.bay b) (.fault .fltInputIdle))
  have hcount := s0.modifyBay_sequencerWork b fun x => { x with faultCount := satInc x.faultCount }
  split
  case h_1 => exact .ite (hfault _) (.ite (hnote.trans (s0.endOfRamp_sequencerWork b)) hnote)
  case h_2 | h_3 => exact .ite (hfault _) (.ite hnote (hfault _))
  case h_4 => exact .ite (hfault _) hnote
  case h_5 =>
    exact .ite (.trans (hnote.trans (.ite (.refl _) hcount))
      (.ite (State.completeCommand_sequencerWork _ b _) (.refl _))) hnote
  case h_6 | h_7 => exact .ite hidle hnote
  case h_8 => exact hnote

/-! ## Debounce and acceptance (R77 to R86) -/

theorem State.dropConfirming_sequencerWork (s : State) (b : BayId) : s.SequencerWork (s.dropConfirming b) :=
  s.modifyEngine_sequencerWork _ _

theorem State.enqueueAll_sequencerWork (s : State) (src : Source) (ds : List Detail) :
    s.SequencerWork (s.enqueueAll src ds) where
  sampled c := by rw [State.enqueueAll_bay]
  live c := by rw [State.enqueueAll_bay]
  engine n := by rw [State.enqueueAll_engine]

theorem State.automaticOff_sequencerWork (s : State) (b : BayId) (e : Bool) : s.SequencerWork (s.automaticOff b e) :=
  .ite (s.powerDown_sequencerWork b) (.refl s)

theorem State.presenceHandOff_sequencerWork (s : State) (b : BayId) : s.SequencerWork (s.presenceHandOff b) :=
  .ite (s.autoStart_sequencerWork b) (s.automaticOff_sequencerWork b _)

theorem State.latchHandOff_sequencerWork (s : State) (b : BayId) : s.SequencerWork (s.latchHandOff b) :=
  .ite (s.autoStart_sequencerWork b) (s.automaticOff_sequencerWork b _)

theorem State.acceptView_sequencerWork (s : State) (b : BayId) (v : View) (levels : Half) :
    s.SequencerWork (s.acceptView b v levels) := by
  have htold : s.SequencerWork (s.acceptTold b v levels) :=
    (s.modifyBay_sequencerWork b _).trans (State.enqueueAll_sequencerWork _ _ _)
  rw [State.acceptView_eq]
  exact (htold.trans (.ite (.refl _) (State.presenceHandOff_sequencerWork _ b))).trans
    (.ite (.refl _) (State.latchHandOff_sequencerWork _ b))

theorem State.debounce_sequencerWork (s : State) (b : BayId) (v : View) (levels : Half) (confirming : Bool) :
    s.SequencerWork (s.debounce b v levels confirming) := by
  have hself := State.SequencerWork.refl s
  have hstart : s.SequencerWork (s.startCandidate b v) := s.modifyBay_sequencerWork b _
  have hdiscard : s.SequencerWork (s.discardCandidate b) := s.modifyBay_sequencerWork b _
  unfold State.debounce
  dsimp only
  split
  · exact .ite hself hstart
  · split
    · exact .ite hself (.ite hdiscard hstart)
    · exact .ite (.ite (s.acceptView_sequencerWork b v levels) hself)
        (.ite (hdiscard.trans (State.dropConfirming_sequencerWork _ b))
          (hstart.trans (State.dropConfirming_sequencerWork _ b)))

end Sys2Proof.Machine

/-! # What a completed read does to the bay's record and to its bus (R73, R74, R89, R104) -/

namespace Sys2Proof.Machine

/-! ## The uses of a read, by its readback (R73) -/

/-- The answer of a completed read: the uses of R73, on a bus that has become idle (R116). -/
theorem exec_inputReadComplete_answers {s : State} {n : BusId} {e : Entry} {a : Nat} (hw : s.OnWire n e a)
    (hk : e.kind = .inputRead) (hn : busOf e.bay = n) (input output direction : Half) :
    ∃ t, exec (.inputReadComplete n input output direction) s = .next t ∧
      t.AnswersAs ((s.busIdle (busOf e.bay)).readDone e.bay e.waiters input output direction) ∧
      s.SameElsewhere t e.bay ∧ t.shell = s.shell := by
  subst hn
  have hres : s.completeTx (busOf e.bay) .inputRead
      (fun t e => t.readDone e.bay e.waiters input output direction) =
      (s.busIdle (busOf e.bay)).readDone e.bay e.waiters input output direction := by
    rw [← hk]; exact State.completeTx_onWire hw _
  obtain ⟨t, hexec, ha⟩ := s.event_answers hw.2 (s.completeTx (busOf e.bay) .inputRead
    (fun t e => t.readDone e.bay e.waiters input output direction))
  rw [hres] at ha
  refine ⟨t, hexec, ha, State.busIdle_sameElsewhere (ha.sameElsewhere ⟨fun k hk => ?_, fun m hm => ?_⟩), ?_⟩
  · exact State.readDone_bay_ne _ _ _ _ _ _ _ hk
  · exact State.readDone_engine_ne _ _ _ _ _ _ _ hm
  · rw [ha.shell, State.readDone_shell, State.busIdle_shell]

/-- A read without a mismatch: its levels judged, then the debounce rules (R73 steps 3 and 4). -/
def State.readJudged (s : State) (b : BayId) (levels : Half) (confirming : Bool) : State :=
  let v := (s.readTold b levels).judgeLive b (s.bay b).live.fault
  v.debounce b (View.ofLevels levels (v.bay b).auxDirs) levels confirming

/-- A read with a mismatch: the bay departs to SETUP, and its setup chain begins (R104). -/
def State.readDeparted (s : State) (b : BayId) (levels : Half) : State :=
  ((s.readTold b levels).depart b .setup .mismatch).requestDiscovery b (.setup .identRead) none

section Read

variable {s : State} {e : Entry} {a : Nat} (hw : s.OnWire (busOf e.bay) e a) (hk : e.kind = .inputRead)
  (hl : (s.bay e.bay).link = .bound) {output direction : Half}
include hw hk hl

theorem State.readDone_judged (hm : s.mismatch e.bay output direction = false) (w : Waiters) (levels : Half) :
    (s.busIdle (busOf e.bay)).readDone e.bay w levels output direction =
      (s.readJudged e.bay levels w.debounce).answerWaiters e.bay w := by
  have hlu : ((s.readTold e.bay levels).bay e.bay).link = .bound := by rw [State.readTold_bay]; exact hl
  have hmu := (State.readTold_mismatch hw hk levels output direction).trans hm
  unfold State.readDone
  rw [← State.readTold, State.busIdle_bay]
  dsimp only
  rw [if_pos hlu, if_neg (Bool.eq_false_iff.mp hmu), if_pos (State.judgeLive_link hlu _)]
  rfl

theorem State.readDone_departed (hm : s.mismatch e.bay output direction = true) (w : Waiters) (levels : Half) :
    (s.busIdle (busOf e.bay)).readDone e.bay w levels output direction =
      (s.readDeparted e.bay levels).answerWaiters e.bay w := by
  have hlu : ((s.readTold e.bay levels).bay e.bay).link = .bound := by rw [State.readTold_bay]; exact hl
  have hmu := (State.readTold_mismatch hw hk levels output direction).trans hm
  unfold State.readDone
  rw [← State.readTold]
  dsimp only
  rw [if_pos hlu, if_pos hmu]
  rfl

end Read

theorem State.readJudged_sequencerWork (s : State) (b : BayId) (levels : Half) (confirming : Bool) :
    (s.readTold b levels).SequencerWork (s.readJudged b levels confirming) :=
  (State.judgeLive_sequencerWork _ b _).trans (State.debounce_sequencerWork _ b _ _ _)

/-- The bay that a mismatch has taken to SETUP (R7, R104). -/
theorem State.readDeparted_departed (s : State) (b : BayId) (levels : Half) :
    Bay.Departed ((s.readTold b levels).bay b) ((s.readDeparted b levels).bay b) .setup .mismatch := by
  rw [State.readDeparted, State.requestDiscovery_bay_ne]
  exact State.depart_departed _ b _ _

/-! ## The waiters of a read (R73 step 5) -/

/-- The answer to a REFRESH that waits on a read (R69, R73). -/
def State.refreshAnswered (s : State) (b : BayId) (w : Waiters) : State :=
  if w.refresh && (s.bay b).slot.runs .refresh then s.completeCommand b .done else s

theorem State.answerWaiters_eq (s : State) (b : BayId) (w : Waiters) :
    s.answerWaiters b w = if w.sweep then (s.refreshAnswered b w).sweepLeave b else s.refreshAnswered b w := rfl

theorem State.refreshAnswered_sequencerWork (s : State) (b : BayId) (w : Waiters) :
    s.SequencerWork (s.refreshAnswered b w) :=
  .ite (s.completeCommand_sequencerWork b _) (.refl s)

theorem State.refreshAnswered_engine (s : State) (b : BayId) (w : Waiters) (n : BusId) :
    (s.refreshAnswered b w).engine n = s.engine n := by
  unfold State.refreshAnswered
  split
  · exact s.completeCommand_engine b _ n
  · rfl

theorem State.refreshAnswered_bay (s : State) (b : BayId) (w : Waiters) :
    (s.refreshAnswered b w).bay b = { s.bay b with
      slot := if w.refresh && (s.bay b).slot.runs .refresh then Slot.ended .refresh (s.bay b).slot.tag .done
              else (s.bay b).slot } := by
  unfold State.refreshAnswered
  split
  · next h =>
    rw [State.completeCommand_of_runs (Bool.and_eq_true_iff.mp h).2, State.enqueue_bay, State.modifyBay_bay_self]
  · rfl

theorem State.refreshAnswered_tells (s : State) (b : BayId) (w : Waiters) :
    (s.refreshAnswered b w).TellsAs (if w.refresh && (s.bay b).slot.runs .refresh
      then s.enqueue (.bay b) (.command .refresh (s.bay b).slot.tag .done) else s) := by
  unfold State.refreshAnswered
  split
  · next h =>
    rw [State.completeCommand_of_runs (Bool.and_eq_true_iff.mp h).2]
    exact (s.modifyBay_tells b _).enqueue _ _
  · exact .refl s

theorem State.refreshAnswered_keeps (s : State) (b : BayId) (w : Waiters) : s.Keeps (s.refreshAnswered b w) :=
  .ite (fun _ => s.completeCommand_keeps b _) fun _ => .refl s

/-- A bay without a command in progress has no REFRESH to answer. -/
theorem State.refreshAnswered_idle {s : State} {b : BayId} (h : (s.bay b).slot.inProgress = false) (w : Waiters) :
    s.refreshAnswered b w = s :=
  if_neg (by simp [Slot.runs_of_idle h])

theorem State.answerWaiters_unswept {s : State} {b : BayId} {w : Waiters} (h : w.sweep = false) :
    s.answerWaiters b w = s.refreshAnswered b w := by
  rw [State.answerWaiters_eq, h]
  rfl

theorem State.answerWaiters_bay (s : State) (b : BayId) (w : Waiters) :
    (s.answerWaiters b w).bay b = (s.refreshAnswered b w).bay b := by
  rw [State.answerWaiters_eq]
  split
  · exact State.sweepLeave_bay_ne _ b b
  · rfl

theorem State.answerWaiters_tells (s : State) (b : BayId) (w : Waiters) :
    (s.answerWaiters b w).TellsAs (s.refreshAnswered b w) := by
  have hwork := (s.refreshAnswered b w).sweepLeave_sweepWork b
  rw [State.answerWaiters_eq]
  split
  · exact .of_shell hwork.events hwork.shell
  · exact .refl _

/-! ## The record of the read (R74) -/

/-- Whatever a read does to its bay, it leaves the image it has sampled (R73, R74). -/
theorem State.readDone_sensed {s : State} {e : Entry} {a : Nat} (hw : s.OnWire (busOf e.bay) e a)
    (hk : e.kind = .inputRead) (hl : (s.bay e.bay).link = .bound) (levels output direction : Half) :
    let y := ((s.busIdle (busOf e.bay)).readDone e.bay e.waiters levels output direction).bay e.bay
    y.sampled = some { levels := levels, time := s.millis } ∧ y.live = Live.ofLevels levels := by
  intro y
  have hanswers := fun u : State => (u.refreshAnswered_sequencerWork e.bay e.waiters)
  cases hm : s.mismatch e.bay output direction with
  | false =>
    have hy : y = ((s.readJudged e.bay levels e.waiters.debounce).refreshAnswered e.bay e.waiters).bay e.bay := by
      rw [← State.answerWaiters_bay, ← State.readDone_judged hw hk hl hm]
    have hwork := (s.readJudged_sequencerWork e.bay levels e.waiters.debounce).trans (hanswers _)
    rw [hy, hwork.sampled, hwork.live, State.readTold_bay]
    exact ⟨rfl, rfl⟩
  | true =>
    have hy : y = ((s.readDeparted e.bay levels).refreshAnswered e.bay e.waiters).bay e.bay := by
      rw [← State.answerWaiters_bay, ← State.readDone_departed hw hk hl hm]
    have hgone := s.readDeparted_departed e.bay levels
    unfold Bay.Departed at hgone
    rw [hy, (hanswers _).sampled, (hanswers _).live, hgone, State.readTold_bay]
    exact ⟨rfl, rfl⟩

/-! ## Levels that the Sequencer does not act on (R27, R42, R44, R45) -/

/-- Without FAULT, and with PGOOD where a powered bay needs it and no ramp waits for it, the judgement only withdraws
the note of an idle bay's FAULT. -/
theorem State.judgeLive_quiet {s : State} {b : BayId} {before : Bool} (hf : (s.bay b).live.fault = false)
    (hg : (s.bay b).power = .clock ∨ (s.bay b).power = .on → (s.bay b).live.pgood = true)
    (hr : (s.bay b).power = .ramp → (s.bay b).live.pgood = false ∨
      ∀ k, (s.bay b).timer ≠ some { purpose := .rampTimeout, left := k }) :
    s.judgeLive b before = s.unnoted b := by
  cases hp : (s.bay b).power with
  | ramp => exact State.judgeLive_rests hf (.inl ⟨hp, hr hp⟩)
  | clock => exact State.judgeLive_rests hf (.inr (.inl ⟨.inl hp, hg (.inl hp)⟩))
  | on => exact State.judgeLive_rests hf (.inr (.inl ⟨.inr hp, hg (.inr hp)⟩))
  | off => exact State.judgeLive_rests hf (.inr (.inr hp))
  | cool | drain | faulted | unknown => simp [State.judgeLive, State.unnoted, hf, hp]

/-- The bay sampled by a read whose levels the Sequencer does not act on (R45, R73). -/
def State.readQuiet (s : State) (b : BayId) (levels : Half) : State := (s.readTold b levels).unnoted b

@[simp] theorem State.readQuiet_bay (s : State) (b : BayId) (levels : Half) :
    (s.readQuiet b levels).bay b = (s.bay b).readQuietly s.millis levels := by
  rw [State.readQuiet, State.unnoted, State.modifyBay_bay_self, State.readTold_bay]
  rfl

@[simp] theorem State.readQuiet_engine (s : State) (b : BayId) (levels : Half) :
    (s.readQuiet b levels).engine (busOf b) = { s.engine (busOf b) with bus := .idle } := by
  rw [State.readQuiet, State.unnoted, State.modifyBay_engine, State.readTold_engine]

theorem State.readQuiet_tells (s : State) (b : BayId) (levels : Half) : (s.readQuiet b levels).TellsAs s := by
  unfold State.readQuiet State.unnoted
  exact (State.modifyBay_tells _ b _).trans (s.readTold_tells b levels)

theorem Live.ofLevels_quiet {levels : Half} (hf : levels.getLsbD 11 = true) :
    Live.ofLevels levels = { fault := false, pgood := levels.getLsbD 12 } := by
  simp [Live.ofLevels, hf]

/-- A read whose levels the Sequencer does not act on goes to the debounce rules at once (R73). -/
theorem State.readJudged_quiet {s : State} {b : BayId} {levels : Half} (hf : levels.getLsbD 11 = true)
    (hg : (s.bay b).power = .clock ∨ (s.bay b).power = .on → levels.getLsbD 12 = true)
    (hr : (s.bay b).power = .ramp → levels.getLsbD 12 = false ∨
      ∀ k, (s.bay b).timer ≠ some { purpose := .rampTimeout, left := k }) (confirming : Bool) :
    s.readJudged b levels confirming =
      (s.readQuiet b levels).debounce b (View.ofLevels levels (s.bay b).auxDirs) levels confirming := by
  have hquiet : (s.readTold b levels).judgeLive b (s.bay b).live.fault = s.readQuiet b levels := by
    refine State.judgeLive_quiet ?_ ?_ ?_ <;> rw [State.readTold_bay]
    · rw [Live.ofLevels_quiet hf]
    · exact hg
    · exact hr
  rw [State.readJudged, hquiet, State.readQuiet_bay]
  rfl

theorem State.debounce_agrees {s : State} {b : BayId} {v : View} (hc : (s.bay b).candidate = none)
    (ha : v.agrees (s.bay b).accepted = true) (levels : Half) (confirming : Bool) :
    s.debounce b v levels confirming = s := by
  simp [State.debounce, hc, ha]

/-! ## Entries of a bay that is not BOUND (R111, R112) -/

/-- The queued entries of bay `b`. -/
def State.queuedOf (s : State) (b : BayId) : List Entry := (s.engine (busOf b)).queue.filter fun q => q.bay = b

theorem State.mem_queuedOf {s : State} {b : BayId} {q : Entry} :
    q ∈ s.queuedOf b ↔ q ∈ (s.engine (busOf b)).queue ∧ q.bay = b := by
  simp [State.queuedOf]

theorem State.queuedOf_of_engine {s t : State} {b : BayId}
    (h : (t.engine (busOf b)).queue = (s.engine (busOf b)).queue) : t.queuedOf b = s.queuedOf b := by
  unfold State.queuedOf
  rw [h]

theorem queueRead_filter_ne {b c : BayId} (h : b ≠ c) (q : List Entry) (w : Waiters) :
    (queueRead q b w).filter (fun x => x.bay = c) = q.filter fun x => x.bay = c := by
  have hmap : ∀ x : Entry, (if x.isRead b then { x with waiters := x.waiters.join w } else x).bay = x.bay :=
    fun x => by split <;> rfl
  unfold queueRead
  split
  · rw [List.filter_map]
    refine (List.map_congr_left fun x hx => ?_).trans ((List.map_id _).trans ?_)
    · have hxc : x.bay = c := by simpa [Function.comp_def, hmap] using (List.mem_filter.mp hx).2
      exact if_neg (by simp [Entry.isRead, hxc, h.symm])
    · exact List.filter_congr fun x _ => by rw [Function.comp_apply, hmap]
  · rw [List.filter_append, List.filter_cons_of_neg (by simpa using h), List.filter_nil, List.append_nil]

/-- A request of a read adds nothing for a bay that is not BOUND (R111). -/
theorem State.requestRead_queuedOf {s : State} {c : BayId} (hl : (s.bay c).link ≠ .bound) (b : BayId) (w : Waiters) :
    (s.requestRead b w).queuedOf c = s.queuedOf c := by
  by_cases hbc : b = c
  · rw [State.requestRead_unbound (hbc ▸ hl)]
  · unfold State.queuedOf
    by_cases hn : busOf c = busOf b
    · rw [hn, State.requestRead_engine]
      dsimp only
      split
      · exact queueRead_filter_ne hbc _ w
      · rfl
    · rw [State.requestRead_engine_ne s b w _ hn]

theorem State.foldl_requestSweepRead_queuedOf {c : BayId} (l : List BayId) {s : State} (hl : (s.bay c).link ≠ .bound) :
    (l.foldl State.requestSweepRead s).queuedOf c = s.queuedOf c := by
  induction l generalizing s with
  | nil => rfl
  | cons b l ih =>
    have hbay : (s.requestSweepRead b).bay c = s.bay c := s.requestRead_bay_ne b _ c
    exact (ih (by rwa [hbay])).trans (State.requestRead_queuedOf hl b _)

theorem State.evalSweep_queuedOf {s : State} {c : BayId} (hl : (s.bay c).link ≠ .bound) (n : BusId) :
    (s.evalSweep n).queuedOf c = s.queuedOf c := by
  unfold State.evalSweep
  split
  · rw [State.startSweep_eq, ← State.foldl_requestSweepRead_queuedOf (s.sweepBays n) hl]
    refine State.queuedOf_of_engine ?_
    rw [State.modifyEngine_engine]
    split
    · next h => rw [h]
    · rfl
  · rfl

theorem State.sweepLeave_queuedOf {s : State} {b : BayId} (hl : (s.bay b).link ≠ .bound) :
    (s.sweepLeave b).queuedOf b = s.queuedOf b := by
  have hsweep : ∀ w, (s.modifyEngine (busOf b) fun e => { e with sweep := w }).queuedOf b = s.queuedOf b := fun w =>
    State.queuedOf_of_engine (by rw [State.modifyEngine_engine_self])
  unfold State.sweepLeave
  split
  · rfl
  · dsimp only
    split
    · rw [State.evalSweep_queuedOf (by rwa [State.modifyEngine_bay]), hsweep]
    · rw [hsweep]

theorem State.answerWaiters_queuedOf {s : State} {b : BayId} (hl : (s.bay b).link ≠ .bound) (w : Waiters) :
    (s.answerWaiters b w).queuedOf b = s.queuedOf b := by
  have hrefresh : (s.refreshAnswered b w).queuedOf b = s.queuedOf b :=
    State.queuedOf_of_engine (by rw [State.refreshAnswered_engine])
  have hlink : ((s.refreshAnswered b w).bay b).link ≠ .bound := by rwa [(s.refreshAnswered_keeps b w).link]
  rw [State.answerWaiters_eq]
  split
  · exact (State.sweepLeave_queuedOf hlink).trans hrefresh
  · exact hrefresh

/-! ## The departure that a mismatch asks for (R104) -/

/-- The queue entry of the first step of a setup chain (R104, R111). -/
def identRequest (b : BayId) : Entry :=
  { kind := .setup .identRead, bay := b, urgent := false, waiters := .none, carried := none }

/-- What a mismatch leaves of the queue: of the departed bay, its IDENT_READ alone (R104, R112). -/
theorem State.readDeparted_queuedOf {s : State} {b : BayId} (henable : (s.engine (busOf b)).config.enable = true)
    (levels : Half) :
    (s.readDeparted b levels).queuedOf b = [identRequest b] := by
  have hgone : ((s.readTold b levels).depart b .setup .mismatch).queuedOf b = [] := by
    have hdropped := State.dropEntries_not_queued ((s.readTold b levels).departed b .setup .mismatch) b
      (by rw [State.departed_link]; nofun)
    rw [State.queuedOf, State.depart_eq, State.enqueue_engine, State.enqueue_engine]
    exact List.filter_eq_nil_iff.mpr fun q hq => by simpa using hdropped q hq
  have htakes : (((s.readTold b levels).depart b .setup .mismatch).engine (busOf b)).takes = true := by
    have hwork := ((s.readTold b levels).departed b .setup .mismatch).dropEntries_sweepWork b
    rw [State.depart_eq, State.enqueue_engine, State.enqueue_engine, hwork.takes, State.unqueue,
      State.modifyEngine_engine_self, State.departed_engine, State.readTold_engine]
    simp [Engine.takes, henable]
  unfold State.queuedOf at hgone ⊢
  rw [State.readDeparted, State.requestDiscovery, if_pos htakes, State.modifyEngine_engine_self, List.filter_append,
    hgone]
  simp [identRequest]

/-- The records of a mismatch are those of the departure (R7, R104). -/
theorem State.readDeparted_tells (s : State) (b : BayId) (levels : Half) :
    (s.readDeparted b levels).TellsAs
      (s.enqueueAll (.bay b) (departureDetails (s.bay b).slot .setup .mismatch)) := by
  have hdepart := (s.readTold b levels).depart_tells b .setup .mismatch
  have hrequest : (s.readDeparted b levels).TellsAs ((s.readTold b levels).depart b .setup .mismatch) :=
    .of_shell (State.requestDiscovery_events _ b _ _) (State.requestDiscovery_shell _ b _ _)
  rw [State.readTold_bay] at hdepart
  exact hrequest.trans (hdepart.trans ((s.readTold_tells b levels).enqueueAll _ _))

/-- No command is in progress in a bay that a mismatch has taken to SETUP (R7). -/
theorem State.readDeparted_idle (s : State) (b : BayId) (levels : Half) :
    ((s.readDeparted b levels).bay b).slot.inProgress = false := by
  have hgone := s.readDeparted_departed b levels
  unfold Bay.Departed at hgone
  rw [hgone]
  dsimp only
  split
  · rfl
  · next h => exact Bool.eq_false_iff.mpr h

theorem State.mismatch_of_readback {s : State} {b : BayId} {w : Written} {output direction : Half}
    (hc : (s.bay b).confirmed = some w) (hidle : s.writeOutstanding b = false)
    (h : output ≠ (w.image.encode w.dirs).output ∨ direction ≠ (w.image.encode w.dirs).direction) :
    s.mismatch b output direction = true := by
  unfold State.mismatch
  rw [hc]
  dsimp only
  rw [hidle]
  rcases h with h | h <;> simp [h]

/-- Settles O42: a read by what its readback and its levels show. -/
theorem readCompletes : Obligations.ReadCompletes := by
  intro n e a input output direction s hw hk hn hl x
  obtain ⟨t, hexec, ha, helse, hshell⟩ := exec_inputReadComplete_answers hw hk hn input output direction
  subst hn
  refine ⟨?_, fun hm _ hf hg hr hc hview hsweep => ?_, fun w hc hidle hdiff _ henable => ?_⟩
  · obtain ⟨hsampled, hlive⟩ := State.readDone_sensed hw hk hl input output direction
    exact ⟨t, hexec, by rw [ha.bay, hsampled], by rw [ha.bay, hlive]; rfl, helse, hshell⟩
  · have hquiet : s.readJudged e.bay input e.waiters.debounce = s.readQuiet e.bay input := by
      rw [State.readJudged_quiet hf hg hr]
      exact State.debounce_agrees (by rw [State.readQuiet_bay]; exact hc) (by rw [State.readQuiet_bay]; exact hview) _ _
    rw [State.readDone_judged hw hk hl hm, hquiet, State.answerWaiters_unswept hsweep] at ha
    have htells : t.TellsAs (if e.waiters.refresh && x.slot.runs .refresh
        then (s.readQuiet e.bay input).enqueue (.bay e.bay) (.command .refresh x.slot.tag .done)
        else s.readQuiet e.bay input) := by
      have htold := (s.readQuiet e.bay input).refreshAnswered_tells e.bay e.waiters
      rw [State.readQuiet_bay] at htold
      exact ha.tells.trans htold
    refine ⟨t, hexec, ?_, ?_, ?_⟩
    · rw [ha.bay, State.refreshAnswered_bay, State.readQuiet_bay, ← Live.ofLevels_quiet hf]
      rfl
    · rw [htells.events]
      split
      · exact ((s.readQuiet_tells e.bay input).enqueue _ _).events
      · exact (s.readQuiet_tells e.bay input).events
    · rw [ha.engine, State.refreshAnswered_engine, State.readQuiet_engine]
  · rw [State.readDone_departed hw hk hl (State.mismatch_of_readback hc hidle hdiff)] at ha
    have hrest := State.refreshAnswered_idle (s.readDeparted_idle e.bay input) e.waiters
    have hgone := s.readDeparted_departed e.bay input
    unfold Bay.Departed at hgone
    have hbay := ha.bay e.bay
    rw [State.answerWaiters_bay, hrest, hgone, State.readTold_bay] at hbay
    have hqueued : t.queuedOf e.bay = [identRequest e.bay] := by
      rw [State.queuedOf_of_engine (congrArg Engine.queue (ha.engine _)),
        State.answerWaiters_queuedOf (by rw [hgone]; nofun), State.readDeparted_queuedOf henable]
    refine ⟨t, hexec, by rw [hbay], by rw [hbay], by rw [hbay]; exact ⟨rfl, rfl, rfl⟩, fun q hq hqb => ?_, ?_, ?_⟩
    · have hmem := State.mem_queuedOf.mpr ⟨hq, hqb⟩
      rw [hqueued, List.mem_singleton] at hmem
      rw [hmem]
      rfl
    · obtain ⟨hq, hqb⟩ := State.mem_queuedOf.mp (hqueued ▸ List.mem_singleton_self _)
      exact ⟨_, hq, hqb, rfl⟩
    · have htells := State.answerWaiters_tells (s.readDeparted e.bay input) e.bay e.waiters
      rw [hrest] at htells
      exact (ha.tells.trans (htells.trans (s.readDeparted_tells e.bay input))).events

end Sys2Proof.Machine

/-! # Reads and the debounce candidate of a resting bay (R76 to R84) -/

namespace Sys2Proof.Machine

/-! ## The candidate (R78, R79, R81) -/

/-- The candidate that a view asks for which the candidate before does not hold: none for the accepted image (R78,
R79). -/
def Bay.proposal (x : Bay) (v : View) : Option Candidate :=
  if v.agrees x.accepted then none else some { view := v, phase := .timing x.config.debounce.toNat }

/-- The candidate after a read that shows view `v` and accepts nothing: one for `v` stays (R78, R79, R81). -/
def Bay.candidateAfter (x : Bay) (v : View) : Option Candidate :=
  if x.candidate.map Candidate.view = some v then x.candidate else x.proposal v

theorem Bay.candidateAfter_none {x : Bay} (h : x.candidate = none) (v : View) : x.candidateAfter v = x.proposal v :=
  if_neg (by rw [h]; nofun)

theorem Bay.candidateAfter_same {x : Bay} {c : Candidate} (h : x.candidate = some c) {v : View} (hv : v = c.view) :
    x.candidateAfter v = some c := by
  rw [Bay.candidateAfter, h, if_pos (by rw [hv]; rfl)]

theorem Bay.candidateAfter_other {x : Bay} {c : Candidate} (h : x.candidate = some c) {v : View} (hv : v ≠ c.view) :
    x.candidateAfter v = x.proposal v :=
  if_neg (by rw [h]; exact fun hsame => hv (Option.some.inj hsame).symm)

/-- The candidate of bay `b` replaced by what view `v` asks for. -/
def State.propose (s : State) (b : BayId) (v : View) : State :=
  s.modifyBay b fun x => { x with candidate := x.proposal v }

theorem State.propose_eq (s : State) (b : BayId) (v : View) :
    s.propose b v = if v.agrees (s.bay b).accepted then s.discardCandidate b else s.startCandidate b v := by
  split
  · next h => exact State.modifyBay_congr (by rw [Bay.proposal, if_pos h])
  · next h => exact State.modifyBay_congr (by rw [Bay.proposal, if_neg h])

/-- From `s` to `t` the read has moved the candidate alone of its bay, to `cand`, and told nothing. -/
structure State.MovesCandidate (s t : State) (b : BayId) (cand : Option Candidate) : Prop where
  bay : t.bay b = { s.bay b with candidate := cand }
  tells : t.TellsAs s

theorem State.MovesCandidate.refl {s : State} {b : BayId} {cand : Option Candidate} (h : (s.bay b).candidate = cand) :
    s.MovesCandidate s b cand :=
  ⟨by rw [← h], .refl s⟩

theorem State.propose_moves (s : State) (b : BayId) (v : View) :
    s.MovesCandidate (s.propose b v) b ((s.bay b).proposal v) :=
  ⟨s.modifyBay_bay_self b _, s.modifyBay_tells b _⟩

theorem State.dropConfirming_tells (s : State) (b : BayId) : (s.dropConfirming b).TellsAs s := ⟨rfl, rfl, rfl⟩

/-- The confirming read that a candidate no longer waits on is a matter of the queue (R81). -/
theorem State.MovesCandidate.dropConfirming {s t : State} {b : BayId} {cand : Option Candidate}
    (h : s.MovesCandidate t b cand) : s.MovesCandidate (t.dropConfirming b) b cand :=
  ⟨(t.dropConfirming_bay_ne b b).trans h.bay, (t.dropConfirming_tells b).trans h.tells⟩

theorem State.debounce_candidate_none {s : State} {b : BayId} (hc : (s.bay b).candidate = none) (v : View)
    (levels : Half) (confirming : Bool) :
    s.MovesCandidate (s.debounce b v levels confirming) b ((s.bay b).proposal v) := by
  unfold State.debounce
  dsimp only
  rw [hc]
  dsimp only
  split
  · next ha => exact .refl (by rw [hc, Bay.proposal, if_pos ha])
  · next ha =>
    have hmoves := s.propose_moves b v
    rwa [State.propose_eq, if_neg ha] at hmoves

/-- A view other than the candidate's replaces the candidate in either phase (R79, R81). -/
theorem State.debounce_candidate_other {s : State} {b : BayId} {c : Candidate} (hc : (s.bay b).candidate = some c)
    {v : View} (hv : v ≠ c.view) (levels : Half) (confirming : Bool) :
    s.MovesCandidate (s.debounce b v levels confirming) b ((s.bay b).proposal v) := by
  have hmoves := s.propose_moves b v
  unfold State.debounce
  dsimp only
  rw [hc]
  dsimp only
  rw [if_neg hv, if_neg hv]
  split
  · rwa [State.propose_eq] at hmoves
  · rw [← apply_ite (State.dropConfirming · b), ← State.propose_eq]
    exact hmoves.dropConfirming

/-- A view that stays leaves the candidate to its timer or to its confirming read (R79, R81). -/
theorem State.debounce_candidate_same {s : State} {b : BayId} {c : Candidate} (hc : (s.bay b).candidate = some c)
    {confirming : Bool} (h : c.phase = .confirming → confirming = false) (levels : Half) :
    s.debounce b c.view levels confirming = s := by
  unfold State.debounce
  dsimp only
  rw [hc]
  dsimp only
  rw [if_pos rfl, if_pos rfl]
  split
  · rfl
  · next hphase => rw [h hphase]; rfl

/-- A read that accepts nothing moves the candidate alone of its bay, and tells nothing (R78, R79, R81). -/
theorem State.debounce_moves {s : State} {b : BayId} {v : View} {confirming : Bool}
    (h : ∀ c, (s.bay b).candidate = some c → c.phase = .confirming → v = c.view → confirming = false)
    (levels : Half) :
    s.MovesCandidate (s.debounce b v levels confirming) b ((s.bay b).candidateAfter v) := by
  cases hc : (s.bay b).candidate with
  | none =>
    rw [Bay.candidateAfter_none hc]
    exact State.debounce_candidate_none hc v levels confirming
  | some c =>
    by_cases hv : v = c.view
    · rw [Bay.candidateAfter_same hc hv, hv,
        State.debounce_candidate_same hc (fun hphase => h c hc hphase hv) levels]
      exact .refl hc
    · rw [Bay.candidateAfter_other hc hv]
      exact State.debounce_candidate_other hc hv levels confirming

/-! ## Acceptance without a hand-off that acts (R85) -/

theorem State.autoStart_unasked {s : State} {b : BayId} (ha : (s.bay b).config.autoOn = false) : s.autoStart b = s :=
  State.autoStart_rests fun _ => by simp [State.autoStartReady, ha]

theorem State.automaticOff_off {s : State} {b : BayId} (hp : (s.bay b).power = .off) (enabled : Bool) :
    s.automaticOff b enabled = s :=
  State.automaticOff_rests (.inr (by rw [hp]; rfl))

section Unasked

variable {s : State} {b : BayId} (hp : (s.bay b).power = .off) (ha : (s.bay b).config.autoOn = false)
include hp ha

theorem State.presenceHandOff_unasked : s.presenceHandOff b = s := by
  rw [State.presenceHandOff, State.autoStart_unasked ha, State.automaticOff_off hp, ite_self]

theorem State.latchHandOff_unasked : s.latchHandOff b = s := by
  rw [State.latchHandOff, State.autoStart_unasked ha, State.automaticOff_off hp, ite_self]

/-- An OFF bay whose AUTO_ON is 0 takes from an acceptance the image and the records alone (R83 to R85). -/
theorem State.acceptView_unasked (v : View) (levels : Half) : s.acceptView b v levels = s.acceptTold b v levels := by
  have hbay := s.acceptTold_bay b v levels
  have hp' : ((s.acceptTold b v levels).bay b).power = .off := by rw [hbay]; exact hp
  have ha' : ((s.acceptTold b v levels).bay b).config.autoOn = false := by rw [hbay]; exact ha
  rw [State.acceptView_eq]
  dsimp only
  rw [State.presenceHandOff_unasked hp' ha', ite_self, State.latchHandOff_unasked hp' ha', ite_self]

end Unasked

/-! ## The read (R73) -/

/-- A read without FAULT of an OFF bay, that only the debounce rules wait on: it goes to them at once (R73). -/
theorem exec_inputReadComplete_off {s : State} {n : BusId} {e : Entry} {a : Nat} {input output direction : Half}
    (hw : s.OnWire n e a) (hk : e.kind = .inputRead) (hn : busOf e.bay = n) (hl : (s.bay e.bay).link = .bound)
    (hrefresh : e.waiters.refresh = false) (hsweep : e.waiters.sweep = false)
    (hm : s.mismatch e.bay output direction = false) (hp : (s.bay e.bay).power = .off)
    (hf : input.getLsbD 11 = true) :
    ∃ t, exec (.inputReadComplete n input output direction) s = .next t ∧
      t.AnswersAs ((s.readQuiet e.bay input).debounce e.bay (View.ofLevels input (s.bay e.bay).auxDirs) input
        e.waiters.debounce) ∧
      s.SameElsewhere t e.bay ∧ t.shell = s.shell := by
  obtain ⟨t, hexec, ha, helse, hshell⟩ := exec_inputReadComplete_answers hw hk hn input output direction
  subst hn
  have hjudged := State.readJudged_quiet (s := s) (b := e.bay) hf (fun h => by simp [hp] at h)
    (fun h => by simp [hp] at h) e.waiters.debounce
  have hunasked : ∀ u : State, u.refreshAnswered e.bay e.waiters = u := fun u => if_neg (by simp [hrefresh])
  rw [State.readDone_judged hw hk hl hm, State.answerWaiters_unswept hsweep, hunasked, hjudged] at ha
  exact ⟨t, hexec, ha, helse, hshell⟩

/-- Settles O44: the debounce rules move the candidate by one formula, and the confirming read accepts. -/
theorem readDebounces : Obligations.ReadDebounces := by
  intro n e a input output direction s hw hk hn hl hrefresh hsweep hm hp hauto hf x v old read becomes fresh
  obtain ⟨t, hexec, ha, helse, hshell⟩ := exec_inputReadComplete_off hw hk hn hl hrefresh hsweep hm hp hf
  have hread : (s.readQuiet e.bay input).bay e.bay = read := by
    rw [State.readQuiet_bay, Bay.readQuietly, Live.ofLevels_quiet hf]
  have htells := s.readQuiet_tells e.bay input
  have hmoves : (∀ c, x.candidate = some c → c.phase = .confirming → v = c.view → e.waiters.debounce = false) →
      becomes (x.candidateAfter v) := fun h => by
    obtain ⟨hbay, htold⟩ := State.debounce_moves (s := s.readQuiet e.bay input) (v := v)
      (by rw [hread]; exact h) input
    rw [hread] at hbay
    exact ⟨t, hexec, (ha.bay _).trans hbay, (ha.tells.trans (htold.trans htells)).events, helse, hshell⟩
  have hunique : ∀ {c c'}, x.candidate = some c → x.candidate = some c' → c = c' := fun h h' =>
    Option.some.inj (h.symm.trans h')
  refine ⟨fun hc => ?_, fun c k hc hphase => ?_, fun c hc hphase hv hnot => ?_, fun c hc hphase hv => ?_,
    fun c hc hphase hv hconfirms => ?_⟩
  · have hafter : x.candidateAfter v = if old then none else fresh := Bay.candidateAfter_none hc v
    exact hafter ▸ hmoves fun c hc' => by rw [hc] at hc'; cases hc'
  · have hafter : x.candidateAfter v = if v = c.view then some c else if old then none else fresh := by
      split
      · next hv => exact Bay.candidateAfter_same hc hv
      · next hv => exact Bay.candidateAfter_other hc hv
    exact hafter ▸ hmoves fun c' hc' hp' => by rw [← hunique hc hc', hphase] at hp'; cases hp'
  · exact Bay.candidateAfter_same hc hv ▸ hmoves fun _ _ _ _ => hnot
  · have hafter : x.candidateAfter v = if old then none else fresh := Bay.candidateAfter_other hc hv
    exact hafter ▸ hmoves fun c' hc' _ hv' => absurd (hunique hc hc' ▸ hv') hv
  · intro acc
    have haccepts := State.debounce_accepts (s := s.readQuiet e.bay input) (by rw [hread]; exact hc) hphase input
    rw [State.acceptView_unasked (by rw [hread]; exact hp) (by rw [hread]; exact hauto), ← hv] at haccepts
    rw [hconfirms, haccepts] at ha
    have htold := (s.readQuiet e.bay input).acceptTold_tells e.bay v input
    have hbay := (s.readQuiet e.bay input).acceptTold_bay e.bay v input
    rw [hread] at htold hbay
    exact ⟨t, hexec, (ha.bay _).trans hbay, rfl, rfl, rfl,
      (ha.tells.trans (htold.trans (htells.enqueueAll _ _))).events, helse, hshell⟩

end Sys2Proof.Machine

/-! # The end of a bay's part in a sweep (R89, R112) -/

namespace Sys2Proof.Machine

/-! ## A bay that has left already -/

theorem State.modifyEngine_of_eq {s : State} {n : BusId} {f : Engine → Engine} (h : f (s.engine n) = s.engine n) :
    s.modifyEngine n f = s := by
  unfold State.modifyEngine
  rw [show f s.engines[n] = s.engines[n] from h]
  exact congrArg (fun v => { s with engines := v }) (Vector.set_getElem_self n.isLt)

/-- A sweep that waits for other bays alone does not move when bay `b` leaves it. -/
theorem State.sweepLeave_of_not_mem {s : State} {b : BayId} {waiting : List BayId}
    (hs : (s.engine (busOf b)).sweep = some waiting) (hb : b ∉ waiting) (hne : waiting ≠ []) :
    s.sweepLeave b = s := by
  have hrest : (waiting.filter fun c => c ≠ b) = waiting :=
    List.filter_eq_self.mpr fun c hc => decide_eq_true fun h : c = b => hb (h ▸ hc)
  have hempty : waiting.isEmpty = false := by simpa using hne
  unfold State.sweepLeave
  rw [hs]
  dsimp only
  rw [hrest, hempty, if_neg Bool.false_ne_true]
  exact State.modifyEngine_of_eq (by rw [← hs])

theorem State.sweepLeave_of_none {s : State} {b : BayId} (hs : (s.engine (busOf b)).sweep = none) :
    s.sweepLeave b = s := by
  unfold State.sweepLeave
  rw [hs]

theorem State.sweepBays_ne_nil {s : State} {n : BusId} (h : s.sweepCondition n = true) : s.sweepBays n ≠ [] := by
  obtain ⟨-, hany⟩ := Bool.and_eq_true_iff.mp h
  obtain ⟨b, hb, hl⟩ := List.any_eq_true.mp hany
  exact List.ne_nil_of_mem (List.mem_filter.mpr ⟨hb, hl⟩)

/-- A bay that is not BOUND leaves a sweep once: a sweep that has started anew does not wait for it (R88, R89). -/
theorem State.SweepLeft.settled {s t : State} {b : BayId} (h : s.SweepLeft t (busOf b) b)
    (hl : (t.bay b).link ≠ .bound) : t.sweepLeave b = t := by
  unfold State.SweepLeft at h
  split at h
  · exact State.sweepLeave_of_none h
  · split at h
    · next hne => exact State.sweepLeave_of_not_mem h (by simp) hne
    · split at h
      · next hcond =>
        exact State.sweepLeave_of_not_mem (waiting := t.sweepBays (busOf b)) h.1
          (fun hb => hl (of_decide_eq_true (List.mem_filter.mp hb).2)) (State.sweepBays_ne_nil hcond)
      · exact State.sweepLeave_of_none h

/-! ## Leaving, or leaving alone -/

/-- From `s` to `t` bay `b` has left the sweep of its bus if `left` says so, and else the sweep has not moved. -/
structure State.PartEnds (s t : State) (b : BayId) (left : Bool) : Prop where
  leaves : left = true → s.SweepLeft t (busOf b) b
  stays : left = false → (t.engine (busOf b)).sweep = (s.engine (busOf b)).sweep

/-- What the judgement of a sweep reads is the same in `t` and `u`, and `u` may hold further requests. -/
structure State.SweepsAs (u t : State) (n : BusId) : Prop where
  alerts : u.alerts = t.alerts
  link : ∀ c, (u.bay c).link = (t.bay c).link
  takes : (u.engine n).takes = (t.engine n).takes
  sweep : (u.engine n).sweep = (t.engine n).sweep
  reads : ∀ c, HasSweepRead (t.engine n).queue c → HasSweepRead (u.engine n).queue c

theorem State.SweepsAs.of_engine {u t : State} {n : BusId} (hs : u.shell = t.shell)
    (hl : ∀ c, (u.bay c).link = (t.bay c).link) (he : u.engine n = t.engine n) : u.SweepsAs t n :=
  ⟨congrArg Shell.alerts hs, hl, by rw [he], by rw [he], fun c => by rw [he]; exact id⟩

theorem State.SweepsAs.trans {s t u : State} {n : BusId} (h : u.SweepsAs t n) (h' : t.SweepsAs s n) : u.SweepsAs s n :=
  ⟨h.alerts.trans h'.alerts, fun c => (h.link c).trans (h'.link c), h.takes.trans h'.takes, h.sweep.trans h'.sweep,
    fun c hc => h.reads c (h'.reads c hc)⟩

theorem State.enqueue_sweepsAs (s : State) (src : Source) (d : Detail) (n : BusId) : (s.enqueue src d).SweepsAs s n :=
  .of_engine rfl (fun _ => rfl) rfl

theorem State.SweepsAs.sweepLeft {s t u : State} {n : BusId} {b : BayId} (h : u.SweepsAs t n)
    (hleft : s.SweepLeft t n b) : s.SweepLeft u n b := by
  have hcond : u.sweepCondition n = t.sweepCondition n := by
    simp only [State.sweepCondition, h.alerts, h.link, h.takes]
  have hstarted : t.SweepStarted n → u.SweepStarted n := fun ⟨hbays, hreads⟩ =>
    ⟨by simp only [h.link, h.sweep]; exact hbays, fun c hc hl => h.reads c (hreads c hc (by rwa [← h.link]))⟩
  unfold State.SweepLeft at hleft ⊢
  rw [hcond, h.sweep]
  split at hleft
  · exact hleft
  · split at hleft
    · next hne => rw [if_pos hne]; exact hleft
    · next hne =>
      rw [if_neg hne]
      split at hleft
      · next hc => rw [if_pos hc]; exact hstarted hleft
      · next hc => rw [if_neg hc]; exact hleft

theorem State.SweepsAs.partEnds {s t u : State} {b : BayId} {left : Bool} (h : u.SweepsAs t (busOf b))
    (hends : s.PartEnds t b left) : s.PartEnds u b left :=
  ⟨fun hleft => h.sweepLeft (hends.leaves hleft), fun hstays => h.sweep.trans (hends.stays hstays)⟩

theorem State.PartEnds.of_before {s s' t : State} {b : BayId} {left : Bool} (h : s.PartEnds t b left)
    (hs : (s'.engine (busOf b)).sweep = (s.engine (busOf b)).sweep) : s'.PartEnds t b left :=
  ⟨fun hleft => (h.leaves hleft).of_sweep hs, fun hstays => (h.stays hstays).trans hs.symm⟩

/-- A bay leaves, or has left before with its link to BOUND lost. -/
theorem State.PartEnds.sweepLeave {s t : State} {b : BayId} {left : Bool} (h : s.PartEnds t b left)
    (hl : left = true → (t.bay b).link ≠ .bound) : s.PartEnds (t.sweepLeave b) b true := by
  refine ⟨fun _ => ?_, nofun⟩
  cases hleft : left with
  | true => rw [(h.leaves hleft).settled (hl hleft)]; exact h.leaves hleft
  | false => exact (t.sweepLeave_swept b).of_sweep (h.stays hleft).symm

/-- The waiter of a sweep is answered, or there is none. -/
theorem State.PartEnds.answer {s t : State} {b : BayId} {left : Bool} (h : s.PartEnds t b left)
    (hl : left = true → (t.bay b).link ≠ .bound) (swept : Bool) :
    s.PartEnds (if swept then t.sweepLeave b else t) b (swept || left) := by
  cases swept with
  | true => exact h.sweepLeave hl
  | false => exact h

/-! ## Departures (R112) -/

/-- A queued read of bay `b` answers the sweep. -/
def State.sweepQueued (s : State) (b : BayId) : Bool :=
  (s.engine (busOf b)).queue.any fun q => q.bay = b && q.waiters.sweep

theorem State.sweepQueued_of_queue {s t : State} {b : BayId}
    (h : (t.engine (busOf b)).queue = (s.engine (busOf b)).queue) : t.sweepQueued b = s.sweepQueued b := by
  rw [State.sweepQueued, h, ← State.sweepQueued]

theorem State.dropEntries_partEnds (s : State) (b : BayId) : s.PartEnds (s.dropEntries b) b (s.sweepQueued b) := by
  have hswept := s.dropEntries_swept b
  rw [← State.sweepQueued] at hswept
  constructor <;> intro h
  · rwa [if_pos h] at hswept
  · rwa [if_neg (Bool.eq_false_iff.mp h)] at hswept

theorem State.depart_partEnds (s : State) (b : BayId) (dest : LinkState) (cause : LinkCause) :
    s.PartEnds (s.depart b dest cause) b (s.sweepQueued b) := by
  have hsame : (s.depart b dest cause).SweepsAs ((s.departed b dest cause).dropEntries b) (busOf b) := by
    rw [State.depart_eq]
    exact (State.enqueue_sweepsAs _ _ _ _).trans (State.enqueue_sweepsAs _ _ _ _)
  have hengine := s.departed_engine b dest cause (busOf b)
  have hends := (s.departed b dest cause).dropEntries_partEnds b
  rw [State.sweepQueued_of_queue (congrArg Engine.queue hengine)] at hends
  exact hsame.partEnds (hends.of_before (congrArg Engine.sweep hengine.symm))

/-- An exhausted read answers its sweep after the departure that it asks for, and an exhausted write departs alone
(R89, R118). -/
theorem State.exhausted_partEnds (s : State) {e : Entry} (hk : e.kind = .inputRead ∨ e.kind = .outputWrite) :
    s.PartEnds (s.exhausted e) e.bay ((e.kind = .inputRead && e.waiters.sweep) || s.sweepQueued e.bay) := by
  have hdepart := s.depart_partEnds e.bay .lost .noAck
  have hlost : s.sweepQueued e.bay = true → ((s.depart e.bay .lost .noAck).bay e.bay).link ≠ .bound := fun _ => by
    rw [State.depart_link]; nofun
  unfold State.exhausted
  rcases hk with hk | hk <;> rw [hk]
  · exact hdepart.answer hlost e.waiters.sweep
  · exact hdepart

/-! ## Completed reads (R73 step 5) -/

theorem State.refreshAnswered_sweepsAs (s : State) (b : BayId) (w : Waiters) (n : BusId) :
    (s.refreshAnswered b w).SweepsAs s n := by
  have hshell : (s.refreshAnswered b w).shell = s.shell := by
    unfold State.refreshAnswered
    split
    · exact s.completeCommand_shell b _
    · rfl
  exact .of_engine hshell (s.refreshAnswered_keeps b w).link (s.refreshAnswered_engine b w n)

theorem State.PartEnds.answerWaiters {s t : State} {b : BayId} {left : Bool} (h : s.PartEnds t b left)
    (hl : left = true → (t.bay b).link ≠ .bound) (w : Waiters) :
    s.PartEnds (t.answerWaiters b w) b (w.sweep || left) := by
  have hsame := t.refreshAnswered_sweepsAs b w (busOf b)
  rw [State.answerWaiters_eq]
  exact (hsame.partEnds h).answer (fun hleft => by rw [hsame.link]; exact hl hleft) w.sweep

/-- A request of the Discovery Unit leaves the sweep reads in the queue (R111). -/
theorem State.requestDiscovery_sweepsAs (s : State) (b : BayId) (kind : TxKind) (carried : Option Written) :
    (s.requestDiscovery b kind carried).SweepsAs s (busOf b) := by
  unfold State.requestDiscovery
  split
  · refine ⟨rfl, fun _ => rfl, ?_, ?_, fun c hc => ?_⟩ <;> rw [State.modifyEngine_engine_self]
    · rfl
    · obtain ⟨q, hq, hread⟩ := hc
      exact ⟨q, List.mem_append_left _ hq, hread⟩
  · exact .of_engine rfl (fun _ => rfl) rfl

/-- A completed read of a BOUND bay ends its part of the sweep as its waiter, or as a mismatch removes a queued sweep
read (R89, R112). -/
theorem State.readDone_partEnds {s : State} {e : Entry} {a : Nat} (hw : s.OnWire (busOf e.bay) e a)
    (hk : e.kind = .inputRead) (hl : (s.bay e.bay).link = .bound) (levels output direction : Half) :
    s.PartEnds ((s.busIdle (busOf e.bay)).readDone e.bay e.waiters levels output direction) e.bay
      (e.waiters.sweep || (s.mismatch e.bay output direction && s.sweepQueued e.bay)) := by
  have hidle : ((s.readTold e.bay levels).engine (busOf e.bay)).sweep = (s.engine (busOf e.bay)).sweep := by
    rw [State.readTold_engine]
  cases hm : s.mismatch e.bay output direction with
  | false =>
    have hsweep := ((s.readJudged_sequencerWork e.bay levels e.waiters.debounce).sweep (busOf e.bay)).trans hidle
    have hstays : s.PartEnds (s.readJudged e.bay levels e.waiters.debounce) e.bay false := ⟨nofun, fun _ => hsweep⟩
    rw [State.readDone_judged hw hk hl hm]
    exact hstays.answerWaiters nofun e.waiters
  | true =>
    have hqueued : (s.readTold e.bay levels).sweepQueued e.bay = s.sweepQueued e.bay :=
      State.sweepQueued_of_queue (by rw [State.readTold_engine])
    have hdepart := ((s.readTold e.bay levels).depart_partEnds e.bay .setup .mismatch).of_before hidle.symm
    rw [hqueued] at hdepart
    have hdeparted : s.PartEnds (s.readDeparted e.bay levels) e.bay (s.sweepQueued e.bay) :=
      (State.requestDiscovery_sweepsAs _ e.bay _ _).partEnds hdepart
    have hgone := s.readDeparted_departed e.bay levels
    unfold Bay.Departed at hgone
    rw [State.readDone_departed hw hk hl hm]
    exact hdeparted.answerWaiters (fun _ => by rw [hgone]; nofun) e.waiters

/-! ## Exhaustion (R118, R120) -/

theorem State.AnswersAs.sweepsAs {t u : State} (h : t.AnswersAs u) (n : BusId) : t.SweepsAs u n :=
  .of_engine h.shell (fun c => by rw [h.bay]) (h.engine n)

/-- The last attempt that a NACK fails (R117, R118). -/
theorem State.nack_exhausted {s : State} {n : BusId} {e : Entry} {a : Nat} (hw : s.OnWire n e a)
    (ha : (s.engine n).config.retryLimit.toNat < a) :
    s.nack n = ((s.countFailure { entry := e, ignored := false }).busIdle n).exhausted e := by
  unfold State.nack
  rw [hw.1]
  dsimp only
  rw [if_neg Bool.false_ne_true, if_neg (Nat.not_le.mpr ha)]

/-- The pass that succeeds after the last attempt (R120; log entry 24). -/
theorem exec_recoveryPassEnd_exhausted {s : State} {n : BusId} {e : Entry} {a p : Nat} {sp : Speed}
    (hb : (s.engine n).bus = .recovering { entry := e, ignored := false } a p sp none)
    (ha : (s.engine n).config.retryLimit.toNat < a) :
    exec (.recoveryPassEnd n true) s = s.event ((s.busIdle n).exhausted e) := by
  change execRecoveryPassEnd n true s = _
  unfold execRecoveryPassEnd
  rw [hb]
  dsimp only
  rw [if_pos rfl, State.passSucceeds, if_neg Bool.false_ne_true, if_neg (Nat.not_le.mpr ha)]

/-- The end of a part, as its two causes say. -/
theorem State.PartEnds.of_causes {s t : State} {b : BayId} {waits queued : Bool}
    (h : s.PartEnds t b (waits || queued)) :
    (waits = true ∨ queued = true → s.SweepLeft t (busOf b) b) ∧
      (waits = false → queued = false → (t.engine (busOf b)).sweep = (s.engine (busOf b)).sweep) :=
  ⟨fun hleft => h.leaves (Bool.or_eq_true_iff.mpr hleft), fun hw hq => h.stays (by rw [hw, hq]; rfl)⟩

/-- The answer of an event that exhausts a read or a write of bay `e.bay` in state `u`, which has the queue and the
sweep of `s`. -/
theorem State.exhausted_answers {s u : State} {e : Entry} (hr : s.resetLow = false)
    (hk : e.kind = .inputRead ∨ e.kind = .outputWrite)
    (hu : u.engine (busOf e.bay) = { s.engine (busOf e.bay) with bus := .idle }) :
    ∃ t, s.event (u.exhausted e) = .next t ∧
      ((e.kind = .inputRead ∧ e.waiters.sweep = true) ∨ s.sweepQueued e.bay = true →
        s.SweepLeft t (busOf e.bay) e.bay) ∧
      (e.kind = .outputWrite ∨ e.waiters.sweep = false → s.sweepQueued e.bay = false →
        (t.engine (busOf e.bay)).sweep = (s.engine (busOf e.bay)).sweep) := by
  obtain ⟨t, hexec, ha⟩ := s.event_answers hr (u.exhausted e)
  have hqueued : u.sweepQueued e.bay = s.sweepQueued e.bay := State.sweepQueued_of_queue (by rw [hu])
  have hends := (ha.sweepsAs _).partEnds (u.exhausted_partEnds hk)
  rw [hqueued] at hends
  obtain ⟨hleft, hstays⟩ := (hends.of_before (s' := s) (by rw [hu])).of_causes
  refine ⟨t, hexec, fun h => hleft (h.imp_left fun ⟨hread, hsweep⟩ => by rw [hread, hsweep]; rfl),
    fun h => hstays ?_⟩
  rcases h with hwrite | hsweep
  · rw [hwrite]; rfl
  · rw [hsweep, Bool.and_false]

/-- Settles O46: the three ends of a transaction, each by what it does to the sweep of its bus. -/
theorem sweepProgress : Obligations.SweepProgress := by
  refine ⟨?_, ?_, ?_⟩
  · rintro n e a input output direction s hw hk rfl hl
    obtain ⟨t, hexec, ha, -⟩ := exec_inputReadComplete_answers hw hk rfl input output direction
    exact ⟨t, hexec, ((ha.sweepsAs _).partEnds (State.readDone_partEnds hw hk hl input output direction)).of_causes⟩
  · rintro n e a s hw hk rfl hlimit
    obtain ⟨t, hevent, hswept⟩ := State.exhausted_answers (s := s) hw.2 hk
      (u := (s.countFailure { entry := e, ignored := false }).busIdle (busOf e.bay))
      (by rw [State.busIdle_engine, State.countFailure_engine])
    exact ⟨t, (congrArg s.event (State.nack_exhausted hw hlimit)).trans hevent, hswept⟩
  · rintro n e a p sp s hr hb hk rfl hlimit
    obtain ⟨t, hevent, hswept⟩ := State.exhausted_answers (s := s) hr hk (s.busIdle_engine (busOf e.bay))
    exact ⟨t, (exec_recoveryPassEnd_exhausted hb hlimit).trans hevent, hswept⟩

end Sys2Proof.Machine

/-! # Words with named fields

A word is packed from fields that do not overlap, so each field is read back through the others. -/

namespace Sys2Proof.Machine

/-! ## Fields of a packed word -/

theorem getElem_fieldOf (w : Word) (lo len i : Nat) (h : i < len) : (fieldOf w lo len)[i] = w.getLsbD (lo + i) :=
  BitVec.getElem_extractLsb' h

/-- A bit of a packed word is that bit of one of its fields. -/
theorem getLsbD_packWord_cons (lo v : Nat) (rest : List (Nat × Nat)) (i : Nat) :
    (packWord ((lo, v) :: rest)).getLsbD i =
      ((decide (i < 32) && (decide (lo ≤ i) && v.testBit (i - lo))) || (packWord rest).getLsbD i) := by
  simp only [packWord, BitVec.getLsbD_or, BitVec.getLsbD_shiftLeft, BitVec.getLsbD_ofNat]
  congr 1
  grind

theorem bitOf_eq_fieldOf (w : Word) (i : Nat) : bitOf w i = (fieldOf w i 1)[0] := by
  simp [bitOf, getElem_fieldOf]

@[simp] theorem fieldOf_packWord_nil (lo len : Nat) : fieldOf (packWord []) lo len = 0 := by
  ext i hi
  simp [fieldOf, packWord]

@[simp] theorem bitOf_packWord_nil (i : Nat) : bitOf (packWord []) i = false := by
  simp [bitOf, packWord]

/-- A field is not touched by a field above it. -/
@[simp] theorem fieldOf_packWord_above {lo' lo len : Nat} (h : lo + len ≤ lo') (v : Nat) (rest : List (Nat × Nat)) :
    fieldOf (packWord ((lo', v) :: rest)) lo len = fieldOf (packWord rest) lo len := by
  ext i hi
  simp [getElem_fieldOf, getLsbD_packWord_cons, show ¬lo' ≤ lo + i by omega]

/-- A field is not touched by a field that ends below it. -/
@[simp] theorem fieldOf_packWord_below {n lo' lo len : Nat} (h : lo' + n ≤ lo) (v : BitVec n)
    (rest : List (Nat × Nat)) :
    fieldOf (packWord ((lo', v.toNat) :: rest)) lo len = fieldOf (packWord rest) lo len := by
  ext i hi
  have hv : v.getLsbD (lo + i - lo') = false := BitVec.getLsbD_of_ge _ _ (by omega)
  simp [getElem_fieldOf, getLsbD_packWord_cons, BitVec.testBit_toNat, hv]

/-- A field holds its value, where the fields after it leave it alone. -/
@[simp] theorem fieldOf_packWord_here {lo len : Nat} (h : lo + len ≤ 32) (v : BitVec len)
    (rest : List (Nat × Nat)) :
    fieldOf (packWord ((lo, v.toNat) :: rest)) lo len = v ||| fieldOf (packWord rest) lo len := by
  ext i hi
  simp only [getElem_fieldOf, getLsbD_packWord_cons, BitVec.testBit_toNat, BitVec.getElem_or]
  simp [hi, show lo + i < 32 by omega]

/-! ## Flags and codes as fields -/

theorem flagNat_eq_toNat (b : Bool) : flagNat b = (BitVec.ofBool b).toNat := by cases b <;> rfl

@[simp] theorem fieldOf_packWord_flag_below {lo' lo len : Nat} (h : lo' + 1 ≤ lo) (b : Bool)
    (rest : List (Nat × Nat)) :
    fieldOf (packWord ((lo', flagNat b) :: rest)) lo len = fieldOf (packWord rest) lo len := by
  rw [flagNat_eq_toNat, fieldOf_packWord_below h]

@[simp] theorem bitOf_packWord_above {i lo : Nat} (h : i + 1 ≤ lo) (v : Nat) (rest : List (Nat × Nat)) :
    bitOf (packWord ((lo, v) :: rest)) i = bitOf (packWord rest) i := by
  simp only [bitOf_eq_fieldOf, fieldOf_packWord_above h]

@[simp] theorem bitOf_packWord_below {n i lo : Nat} (h : lo + n ≤ i) (v : BitVec n) (rest : List (Nat × Nat)) :
    bitOf (packWord ((lo, v.toNat) :: rest)) i = bitOf (packWord rest) i := by
  simp only [bitOf_eq_fieldOf, fieldOf_packWord_below h]

@[simp] theorem bitOf_packWord_flag_below {i lo : Nat} (h : lo + 1 ≤ i) (b : Bool) (rest : List (Nat × Nat)) :
    bitOf (packWord ((lo, flagNat b) :: rest)) i = bitOf (packWord rest) i := by
  rw [flagNat_eq_toNat, bitOf_packWord_below h]

@[simp] theorem bitOf_packWord_here {i : Nat} (h : i + 1 ≤ 32) (b : Bool) (rest : List (Nat × Nat)) :
    bitOf (packWord ((i, flagNat b) :: rest)) i = (b || bitOf (packWord rest) i) := by
  rw [flagNat_eq_toNat, bitOf_eq_fieldOf, fieldOf_packWord_here h, BitVec.getElem_or, ← bitOf_eq_fieldOf]
  cases b <;> rfl

/-- The SPEED field. -/
def Speed.bits (sp : Speed) : BitVec 2 := BitVec.ofNat 2 sp.code

theorem Speed.code_eq_toNat (sp : Speed) : sp.code = sp.bits.toNat := by cases sp <;> rfl

theorem Speed.ofBits_bits (sp : Speed) : Speed.ofBits sp.bits = some sp := by cases sp <;> rfl

/-- The LINE field. -/
def lineBits (line : Option LineId) : BitVec 3 := BitVec.ofNat 3 (lineCode line)

theorem lineCode_eq_toNat : ∀ line : Option LineId, lineCode line = (lineBits line).toNat := by decide

/-- A class map entry as a field. -/
def classEntryBits (entry : Option ProfileId) : BitVec 4 := BitVec.ofNat 4 (classEntryCode entry)

theorem classEntryCode_eq_toNat : ∀ entry : Option ProfileId,
    classEntryCode entry = (classEntryBits entry).toNat := by decide

theorem classEntryOf_classEntryBits : ∀ entry : Option ProfileId,
    classEntryOf (classEntryBits entry) = some entry := by decide

/-! ## Words read back -/

theorem bayCommandWord_fields (code : BitVec 4) (tag : Byte) (args : CommandArgs) :
    commandCodeOf (bayCommandWord code tag args) = code ∧ commandTagOf (bayCommandWord code tag args) = tag ∧
      commandArgsOf (bayCommandWord code tag args) = args := by
  simp [bayCommandWord, commandCodeOf, commandTagOf, commandArgsOf]

theorem globalCommandWord_fields (code : BitVec 4) (m : BusMask) (tag : Byte) :
    commandCodeOf (globalCommandWord code m tag) = code ∧ busMaskOf (globalCommandWord code m tag) = m ∧
      commandTagOf (globalCommandWord code m tag) = tag := by
  simp [globalCommandWord, commandCodeOf, commandTagOf, busMaskOf]

theorem BayConfig.ofWord_toWord (c : BayConfig) : BayConfig.ofWord c.toWord = c := by
  simp [BayConfig.ofWord, BayConfig.toWord]

theorem Profile.withWords_words (p : Profile) : (p.withWordA p.wordA).withWordB p.wordB = p := by
  obtain ⟨mode, ramp, clk, drain, cool⟩ := p
  cases mode <;> simp [Profile.withWordA, Profile.wordA, Profile.withWordB, Profile.wordB]

/-- Each entry stands in the field of its class. -/
theorem classField_classMapWord (m : Vector (Option ProfileId) 8) (c : Nat) (hc : c < 8) :
    classField (classMapWord m) c = classEntryBits m[c] := by
  simp only [classMapWord, classEntryCode_eq_toNat, classField]
  interval_cases c <;> simp

theorem classMapOf_classMapWord (m : Vector (Option ProfileId) 8) : classMapOf (classMapWord m) = some m := by
  have hentry (c : Nat) (hc : c < 8) : classEntryOf (classField (classMapWord m) c) = some m[c] := by
    rw [classField_classMapWord m c hc, classEntryOf_classEntryBits]
  have hentries : #v[m[0], m[1], m[2], m[3], m[4], m[5], m[6], m[7]] = m := by
    ext c hc
    interval_cases c <;> rfl
  simp only [classMapOf, hentry, Nat.reduceLT, hentries]

theorem BusConfig.ofWord_toWord (c : BusConfig) : BusConfig.ofWord c.toWord = some c := by
  simp [BusConfig.ofWord, BusConfig.toWord, Speed.code_eq_toNat, Speed.ofBits_bits]

theorem Route.ofWord_toWord (r : Route) (h : r.line = none → r.excl = false) : Route.ofWord r.toWord = some r := by
  have hline : fieldOf r.toWord 0 3 = lineBits r.line := by simp [Route.toWord, lineCode_eq_toNat]
  have hexcl : bitOf r.toWord 4 = r.excl := by simp [Route.toWord, lineCode_eq_toNat]
  simp only [Route.ofWord, hline, hexcl]
  obtain ⟨line, excl⟩ := r
  cases line with
  | none => cases h rfl; rfl
  | some k => fin_cases k <;> rfl

/-- The named fields of a line after a line control word (R162, R166). -/
theorem Line.written_fields (l : Line) (w : Word) (count : Nat) :
    (l.written w count).enable = bitOf w 0 ∧ (l.written w count).pulse = bitOf w 1 ∧
      (l.written w count).activeHigh = bitOf w 2 := by
  have hcause (x : Line) : x.cause.enable = x.enable ∧ x.cause.pulse = x.pulse ∧
      x.cause.activeHigh = x.activeHigh := by
    unfold Line.cause
    split
    · split <;> exact ⟨rfl, rfl, rfl⟩
    · exact ⟨rfl, rfl, rfl⟩
  unfold Line.written
  dsimp only
  split
  · split
    · exact ⟨rfl, rfl, rfl⟩
    · split
      · exact hcause _
      · exact ⟨rfl, rfl, rfl⟩
  · exact ⟨rfl, rfl, rfl⟩

theorem State.lineWord_fields (s : State) (k : LineId) :
    bitOf (s.lineWord k) 0 = (s.lines[k]).enable ∧ bitOf (s.lineWord k) 1 = (s.lines[k]).pulse ∧
      bitOf (s.lineWord k) 2 = (s.lines[k]).activeHigh := by
  simp [State.lineWord]

/-! ## Output images in the registers (R96 to R98) -/

/-- Line `i` of a register stands at bit `i`. -/
@[simp] theorem getElem_ofLines (lines : List Bool) (i : Nat) (h : i < 16) :
    (ofLines lines)[i] = lines.getD i false := by
  induction lines generalizing i with
  | nil => simp [ofLines]
  | cons b rest ih =>
    cases i with
    | zero => cases b <;> simp [ofLines]
    | succ i =>
      have hlow : (if b then 1 else 0 : Half)[i + 1] = false := by cases b <;> simp
      rw [ofLines, BitVec.getElem_or, hlow, Bool.or_false]
      simp [ih]

/-- The mode of an indicator comes back from its three bits (R97, R98). -/
@[simp] theorem IndMode.decode_bits (m : IndMode) : IndMode.decode m.outputBit m.blinkBit m.rateBit = m := by
  cases m <;> rfl

theorem Image.decode_encode (i : Image) (d : Dirs) :
    (i.encode d).decode = { i with aux0 := i.aux0 && d.aux0, aux1 := i.aux1 && d.aux1 } := by
  simp [Regs.decode, Image.encode]

theorem Image.encode_consistent (i : Image) (d : Dirs) : (i.encode d).consistent d = true := by
  simp only [Regs.consistent, Image.decode_encode, decide_eq_true_eq]
  simp [Image.encode]

/-- The law of R12 in the OUTPUT bits: MRST is line 2, CLK_EN line 1, PWR_EN line 0 (R96). -/
theorem Image.encode_lawful (i : Image) (d : Dirs) (h : i.lawful = true) :
    ((i.encode d).output.getLsbD 2 = true → (i.encode d).output.getLsbD 1 = true) ∧
      ((i.encode d).output.getLsbD 1 = true → (i.encode d).output.getLsbD 0 = true) := by
  obtain ⟨hreleased, hclk⟩ := Bool.and_eq_true_iff.mp h
  have hout2 : (i.encode d).output.getLsbD 2 = i.released := by simp [Image.encode]
  have hout1 : (i.encode d).output.getLsbD 1 = i.clkEn := by simp [Image.encode]
  have hout0 : (i.encode d).output.getLsbD 0 = i.pwrEn := by simp [Image.encode]
  rw [hout2, hout1, hout0]
  exact ⟨fun hr => by simpa [hr] using hreleased, fun hc => by simpa [hc] using hclk⟩

/-- Settles O12: each word field by field, and the image line by line. -/
theorem wordsAndImagesRoundTrip : Obligations.WordsAndImagesRoundTrip := by
  refine ⟨bayCommandWord_fields, globalCommandWord_fields, BayConfig.ofWord_toWord, Profile.withWords_words,
    classMapOf_classMapWord, BusConfig.ofWord_toWord, Route.ofWord_toWord, fun k l count s => ?_, fun v => ?_,
    fun i d => ⟨i.decode_encode d, i.encode_consistent d, rfl, i.encode_lawful d⟩⟩
  · obtain ⟨henable, hpulse, hhigh⟩ := l.written_fields (s.lineWord k) count
    obtain ⟨henable', hpulse', hhigh'⟩ := s.lineWord_fields k
    exact ⟨henable.trans henable', hpulse.trans hpulse', hhigh.trans hhigh'⟩
  · simp

end Sys2Proof.Machine

/-! # The levels of bits, conditions and items (R99, R120, R126) -/

namespace Sys2Proof.Machine

/-! ## Bits and conditions (R99) -/

/-- The data line while the clock is high: one level for each bit (R99). -/
theorem clockedData_bits (bs : List Bool) :
    ((bs.flatMap bitLevels).filter WireLevels.clock).map WireLevels.data = bs := by
  induction bs with
  | nil => rfl
  | cons b bs ih => simpa [bitLevels] using ih

theorem msbFirst_eq (v : Byte) :
    msbFirst v = [v.getLsbD 7, v.getLsbD 6, v.getLsbD 5, v.getLsbD 4, v.getLsbD 3, v.getLsbD 2, v.getLsbD 1,
      v.getLsbD 0] := rfl

/-- Bits that end a course of levels make no start condition. -/
theorem startsIn_bits (bs : List Bool) : startsIn (bs.flatMap bitLevels) = 0 := by
  have h := startsIn_bits_append bs []
  rwa [List.append_nil] at h

/-- Bits that end a course of levels make no stop condition. -/
theorem stopsIn_bits (bs : List Bool) : stopsIn (bs.flatMap bitLevels) = 0 := by
  have h := stopsIn_bits_append bs []
  rwa [List.append_nil] at h

/-- A start or a repeated start is one start condition, and a byte is none (R99). -/
theorem startsIn_levels_append {x : WireItem} (hx : x ≠ .stop) (v : Byte) (acked : Bool) (l : List WireLevels) :
    startsIn (x.levels v acked ++ l) = (if x = .start || x = .repeatedStart then 1 else 0) + startsIn l := by
  cases x with
  | stop => exact absurd rfl hx
  | start => simp [WireItem.levels, startLevels, startsIn]
  | repeatedStart => simp [WireItem.levels, repeatedStartLevels, startLevels, startsIn]
  | send b => simp [WireItem.levels]
  | recv ack => simp [WireItem.levels]

/-- No item but a stop is a stop condition (R99). -/
theorem stopsIn_levels_append {x : WireItem} (hx : x ≠ .stop) (v : Byte) (acked : Bool) (l : List WireLevels) :
    stopsIn (x.levels v acked ++ l) = stopsIn l := by
  cases x with
  | stop => exact absurd rfl hx
  | start => simp [WireItem.levels, startLevels, stopsIn]
  | repeatedStart => simp [WireItem.levels, repeatedStartLevels, startLevels, stopsIn]
  | send b => simp [WireItem.levels]
  | recv ack => simp [WireItem.levels]

/-! ## Recovery passes (R120) -/

/-- A partner that was cut off in a byte has released the line by the stop: no bit is left to it. -/
theorem cutSender_released (v : Byte) (sent : Fin 9) : (cutSender v sent)[9] = true := by
  have hlen : (msbFirst v).length ≤ sent.val + 9 := by simp [msbFirst_eq]
  simp [cutSender, List.getElem?_eq_none hlen]

theorem recoveryPass_whole (partners : Vector Bool 10) :
    let run := recoveryPass partners none
    (run.levels.filter WireLevels.clock).map WireLevels.data = partners.toList.take 9 ++ [false, partners[9]] ∧
      startsIn run.levels = 0 ∧ run.result = if partners[9] then .succeeded else .failed := by
  refine ⟨?_, ?_, rfl⟩
  · simp only [recoveryPass, List.filter_append, List.map_append, clockedData_bits]
    rfl
  · simp only [recoveryPass, startsIn_bits_append]
    cases partners[9] <;> rfl

/-- A pass that is cut in clock `k`: by a held clock it fails, and by the part it ends with a stop. -/
theorem recoveryPass_cut (partners : Vector Bool 10) (k : Fin 9) :
    (recoveryPass partners (some (k, .clockHeld))).result = .failed ∧
      ((recoveryPass partners (some (k, .clockHeld))).levels.filter WireLevels.clock).map WireLevels.data =
        partners.toList.take k.val ∧
      (recoveryPass partners (some (k, .stopped))).result = .abandoned ∧
      ∃ before, (recoveryPass partners (some (k, .stopped))).levels = before ++ stopLevels partners[k.castSucc] := by
  refine ⟨rfl, ?_, rfl, _, rfl⟩
  simp only [recoveryPass, List.filter_append, List.map_append, clockedData_bits]
  simp [List.take_take]

/-! ## What the engine drives (R105, R126) -/

theorem State.drivesBus_quiet {s : State} {n : BusId}
    (h : s.resetLow = true ∨ (s.engine n).bus = .idle ∨ (s.engine n).bus = .failed) : s.drivesBus n = false := by
  rcases h with h | h | h <;> simp [State.drivesBus, h]

theorem State.drivesBus_working {s : State} {n : BusId} (hr : s.resetLow = false) {tx : Tx} {a : Nat}
    {sp : Speed} {st : Option Nat}
    (h : (s.engine n).bus = .active tx a sp st ∨ ∃ p, (s.engine n).bus = .recovering tx a p sp st) :
    s.drivesBus n = true := by
  rcases h with h | ⟨p, h⟩ <;> simp [State.drivesBus, hr, h]

end Sys2Proof.Machine

/-! # The course of an attempt

An attempt is a course of items that the expander takes, then the item that a disturbance meets, if one does. -/

namespace Sys2Proof.Machine

/-! ## Items that the expander takes (R93, R99) -/

/-- The run `r`, with the items of `c` before it, each acknowledged and with the byte that the expander sends in it. -/
def WireRun.precededBy (r : WireRun) (c : List (WireItem × Byte)) : WireRun :=
  { r with wire := c.map Prod.fst ++ r.wire, levels := c.flatMap (fun p => p.1.levels p.2 true) ++ r.levels,
           received := (c.filter fun p => p.1.isRecv).map Prod.snd ++ r.received }

@[simp] theorem WireRun.precededBy_expander (r : WireRun) (c : List (WireItem × Byte)) :
    (r.precededBy c).expander = r.expander := rfl

@[simp] theorem WireRun.precededBy_result (r : WireRun) (c : List (WireItem × Byte)) :
    (r.precededBy c).result = r.result := rfl

@[simp] theorem WireRun.precededBy_wire (r : WireRun) (c : List (WireItem × Byte)) :
    (r.precededBy c).wire = c.map Prod.fst ++ r.wire := rfl

@[simp] theorem WireRun.precededBy_levels (r : WireRun) (c : List (WireItem × Byte)) :
    (r.precededBy c).levels = c.flatMap (fun p => p.1.levels p.2 true) ++ r.levels := rfl

@[simp] theorem WireRun.precededBy_received (r : WireRun) (c : List (WireItem × Byte)) :
    (r.precededBy c).received = (c.filter fun p => p.1.isRecv).map Prod.snd ++ r.received := rfl

theorem WireRun.precededBy_append (r : WireRun) (c c' : List (WireItem × Byte)) :
    r.precededBy (c ++ c') = (r.precededBy c').precededBy c := by
  simp [WireRun.precededBy]

/-- The disturbance leaves item `k` alone. -/
structure Disturbance.Spares (d : Disturbance) (k : Nat) : Prop where
  low : d.lowBits k = 0
  uncut : d.cutAt k = none
  acknowledged : d ≠ .refused k

theorem Disturbance.quiet_spares (k : Nat) : Disturbance.quiet.Spares k := ⟨rfl, rfl, nofun⟩

theorem Disturbance.refused_spares {j k : Nat} (h : k ≠ j) : (Disturbance.refused j).Spares k :=
  ⟨rfl, rfl, fun heq => h (Disturbance.refused.inj heq).symm⟩

theorem Disturbance.clockHeld_spares {j bit k : Nat} (h : k ≠ j) : (Disturbance.clockHeld j bit).Spares k :=
  ⟨rfl, if_neg h.symm, nofun⟩

@[simp] theorem WireItem.isRecv_send (v : Byte) : (WireItem.send v).isRecv = false := rfl

@[simp] theorem WireItem.isRecv_recv (ack : Bool) : (WireItem.recv ack).isRecv = true := rfl

@[simp] theorem WireItem.isRecv_onWire (x : WireItem) (low : BitVec 9) : (x.onWire low).isRecv = x.isRecv := by
  cases x <;> rfl

/-- An item that the expander takes as the wire carries it, with the data line held low in some of its bits or in
none; a condition only on a released line (R100). -/
theorem Expander.run_cons_of_take {b : BayId} {board : Half} {d : Disturbance} {k : Nat} {ph ph' : WirePhase}
    {x : WireItem} {rest : List WireItem} {e e' : Expander} {bs : List Byte} (hcut : d.cutAt k = none)
    (hack : d ≠ .refused k) (hcond : x.isCondition = true → d.lowBits k = 0)
    (h : e.take b board ph (x.onWire (d.lowBits k)) = some (e', ph', bs)) :
    Expander.run b board d k ph (x :: rest) e =
      (Expander.run b board d (k + 1) ph' rest e').precededBy
        [(x.onWire (d.lowBits k), heldByte (bs.headD 0xFF) (d.lowBits k))] := by
  rw [Expander.run]
  cases hx : x.isRecv <;> simpa [hcut, hack, h, hx, WireRun.precededBy] using hcond

theorem Expander.run_cons_spared {b : BayId} {board : Half} {d : Disturbance} {k : Nat} {ph ph' : WirePhase}
    {x : WireItem} {rest : List WireItem} {e e' : Expander} {bs : List Byte} (hd : d.Spares k)
    (h : e.take b board ph x = some (e', ph', bs)) :
    Expander.run b board d k ph (x :: rest) e =
      (Expander.run b board d (k + 1) ph' rest e').precededBy [(x, bs.headD 0xFF)] := by
  have hrun := Expander.run_cons_of_take (rest := rest) hd.uncut hd.acknowledged (fun _ => hd.low)
    (by rw [hd.low, WireItem.onWire_zero]; exact h)
  rwa [hd.low, WireItem.onWire_zero, heldByte_zero] at hrun

/-- A course of items that the expander of bay `b` takes one after the other, each with the byte that the expander
sends in it, 0xFF where it sends none; with the expander and its phase before and after. -/
inductive Expander.Course (b : BayId) (board : Half) :
    Expander → WirePhase → List (WireItem × Byte) → Expander → WirePhase → Prop where
  | nil (e : Expander) (ph : WirePhase) : Course b board e ph [] e ph
  | cons {e e' e'' : Expander} {ph ph' ph'' : WirePhase} {x : WireItem} {bs : List Byte} {c : List (WireItem × Byte)}
      (take : e.take b board ph x = some (e', ph', bs)) (rest : Course b board e' ph' c e'' ph'') :
      Course b board e ph ((x, bs.headD 0xFF) :: c) e'' ph''

theorem Expander.Course.append {b : BayId} {board : Half} {e e' e'' : Expander} {ph ph' ph'' : WirePhase}
    {c c' : List (WireItem × Byte)} (h : Expander.Course b board e ph c e' ph')
    (h' : Expander.Course b board e' ph' c' e'' ph'') : Expander.Course b board e ph (c ++ c') e'' ph'' := by
  induction h with
  | nil => exact h'
  | cons take _ ih => exact .cons take (ih h')

/-- What goes over the wire in a course that the disturbance spares, before the rest of the attempt. -/
theorem Expander.Course.run_eq {b : BayId} {board : Half} {e e' : Expander} {ph ph' : WirePhase}
    {c : List (WireItem × Byte)} (h : Expander.Course b board e ph c e' ph') {d : Disturbance} {k : Nat}
    (hd : ∀ i, k ≤ i → i < k + c.length → d.Spares i) (rest : List WireItem) :
    Expander.run b board d k ph (c.map Prod.fst ++ rest) e =
      (Expander.run b board d (k + c.length) ph' rest e').precededBy c := by
  induction h generalizing k with
  | nil => rfl
  | @cons _ _ _ _ _ _ x bs c take _ ih =>
    simp only [List.length_cons] at hd
    have hrest := ih (k := k + 1) fun i hlo hhi => hd i (by omega) (by omega)
    rw [List.map_cons, List.cons_append, Expander.run_cons_spared (hd k (by omega) (by omega)) take, hrest,
      ← WireRun.precededBy_append, List.singleton_append, List.length_cons, Nat.add_assoc, Nat.add_comm 1]

/-! ## Headers (R93, R99) -/

/-- The expander with its pointer at the index `i`. -/
def Expander.atIndex (e : Expander) (i : Byte) : Expander := { e with pointer := i.setWidth 4 }

@[simp] theorem Expander.atIndex_regs (e : Expander) (i : Byte) : (e.atIndex i).regs = e.regs := rfl

@[simp] theorem Expander.atIndex_snapshot (e : Expander) (i : Byte) : (e.atIndex i).snapshot = e.snapshot := rfl

@[simp] theorem Expander.atIndex_pins (e : Expander) (i : Byte) (board : Half) :
    (e.atIndex i).pins board = e.pins board := rfl

theorem addressByte_read_ne_write (b : BayId) : addressByte b true ≠ addressByte b false := by
  revert b; decide

theorem Expander.take_address_write (b : BayId) (board : Half) (e : Expander) :
    e.take b board .address (.send (addressByte b false)) = some (e, .index, []) := if_pos rfl

theorem Expander.take_address_read (b : BayId) (board : Half) (e : Expander) :
    e.take b board .address (.send (addressByte b true)) = some (e, .sending, []) :=
  (if_neg (addressByte_read_ne_write b)).trans (if_pos rfl)

theorem Expander.take_index {b : BayId} {board : Half} {e : Expander} {i : Byte} (hi : i.toNat < 16) :
    e.take b board .index (.send i) = some (e.atIndex i, .storing, []) := by
  simp [Expander.take, Expander.setPointer, hi, Expander.atIndex]

/-- The items that address the expander of bay `b` for a write. -/
def addressing (b : BayId) : List (WireItem × Byte) := [(.start, 0xFF), (.send (addressByte b false), 0xFF)]

/-- The items before the data bytes of a write from index `i` on. -/
def writeHeader (b : BayId) (i : Byte) : List (WireItem × Byte) := addressing b ++ [(.send i, 0xFF)]

/-- The items before the data bytes of a read from index `i` on. -/
def readHeader (b : BayId) (i : Byte) : List (WireItem × Byte) :=
  writeHeader b i ++ [(.repeatedStart, 0xFF), (.send (addressByte b true), 0xFF)]

@[simp] theorem writeHeader_received (b : BayId) (i : Byte) :
    (writeHeader b i).filter (fun p => p.1.isRecv) = [] := rfl

@[simp] theorem readHeader_received (b : BayId) (i : Byte) :
    (readHeader b i).filter (fun p => p.1.isRecv) = [] := rfl

theorem Expander.course_addressing (b : BayId) (board : Half) (e : Expander) (ph : WirePhase) :
    Expander.Course b board e ph (addressing b) e .index :=
  .cons (bs := []) rfl (.cons (bs := []) (e.take_address_write b board) (.nil _ _))

theorem Expander.course_writeHeader {b : BayId} {board : Half} {e : Expander} {ph : WirePhase} {i : Byte}
    (hi : i.toNat < 16) : Expander.Course b board e ph (writeHeader b i) (e.atIndex i) .storing :=
  (e.course_addressing b board ph).append (.cons (bs := []) (Expander.take_index hi) (.nil _ _))

theorem Expander.course_readHeader {b : BayId} {board : Half} {e : Expander} {ph : WirePhase} {i : Byte}
    (hi : i.toNat < 16) : Expander.Course b board e ph (readHeader b i) (e.atIndex i) .sending :=
  (Expander.course_writeHeader hi).append
    (.cons (bs := []) rfl (.cons (bs := []) (Expander.take_address_read b board _) (.nil _ _)))

/-! ## Data bytes to the expander (R93) -/

/-- The expander after data bytes have been stored. -/
def Expander.storeAll (e : Expander) (bs : List Byte) : Expander := bs.foldl Expander.store e

/-- Data bytes from the part. -/
def sendings (bs : List Byte) : List (WireItem × Byte) := bs.map fun v => (.send v, 0xFF)

@[simp] theorem sendings_length (bs : List Byte) : (sendings bs).length = bs.length := List.length_map ..

@[simp] theorem sendings_items (bs : List Byte) : (sendings bs).map Prod.fst = bs.map .send := by
  simp [sendings]

@[simp] theorem sendings_received (bs : List Byte) :
    (sendings bs).filter (fun p => p.1.isRecv) = [] := by
  simp [sendings]

theorem Expander.course_storeAll (b : BayId) (board : Half) (e : Expander) (bs : List Byte) :
    Expander.Course b board e .storing (sendings bs) (e.storeAll bs) .storing := by
  induction bs generalizing e with
  | nil => exact .nil _ _
  | cons v bs ih => exact .cons (bs := []) rfl (ih (e.store v))

@[simp] theorem Expander.storeAll_snapshot (e : Expander) (bs : List Byte) :
    (e.storeAll bs).snapshot = e.snapshot := by
  induction bs generalizing e with
  | nil => rfl
  | cons v bs ih => exact ih (e.store v)

/-! ## Data bytes from the expander (R93, R95) -/

/-- The data bytes that the expander sends in `n` data bytes. -/
def Expander.sentBytes (board : Half) : Expander → Nat → List Byte
  | _, 0 => []
  | e, n + 1 => (e.send board).1 :: ((e.send board).2).sentBytes board n

/-- The expander after `n` data bytes have been sent. -/
def Expander.afterSending (board : Half) : Expander → Nat → Expander
  | e, 0 => e
  | e, n + 1 => ((e.send board).2).afterSending board n

/-- Data bytes to the part, which acknowledges them. -/
def readings (bs : List Byte) : List (WireItem × Byte) := bs.map fun v => (.recv true, v)

@[simp] theorem Expander.sentBytes_length (board : Half) (e : Expander) (n : Nat) :
    (e.sentBytes board n).length = n := by
  induction n generalizing e with
  | zero => rfl
  | succ n ih => exact congrArg (· + 1) (ih _)

@[simp] theorem readings_length (bs : List Byte) : (readings bs).length = bs.length := List.length_map ..

@[simp] theorem readings_items (bs : List Byte) :
    (readings bs).map Prod.fst = List.replicate bs.length (.recv true) := by
  simp [readings, Function.comp_def]

@[simp] theorem readings_received (bs : List Byte) :
    ((readings bs).filter fun p => p.1.isRecv).map Prod.snd = bs := by
  induction bs with
  | nil => rfl
  | cons v bs ih => exact congrArg (v :: ·) ih

theorem Expander.course_readings (b : BayId) (board : Half) (e : Expander) (n : Nat) :
    Expander.Course b board e .sending (readings (e.sentBytes board n)) (e.afterSending board n) .sending := by
  induction n generalizing e with
  | zero => exact .nil _ _
  | succ n ih => exact .cons (bs := [_]) rfl (ih _)

/-- The expander sends one byte more. -/
theorem Expander.sentBytes_succ_last (board : Half) (e : Expander) (n : Nat) :
    e.sentBytes board n ++ [((e.afterSending board n).send board).1] = e.sentBytes board (n + 1) := by
  induction n generalizing e with
  | zero => rfl
  | succ n ih => exact congrArg ((e.send board).1 :: ·) (ih _)

theorem Expander.afterSending_succ_last (board : Half) (e : Expander) (n : Nat) :
    ((e.afterSending board n).send board).2 = e.afterSending board (n + 1) := by
  induction n generalizing e with
  | zero => rfl
  | succ n ih => exact ih _

@[simp] theorem Expander.afterSending_regs (board : Half) (e : Expander) (n : Nat) :
    (e.afterSending board n).regs = e.regs := by
  induction n generalizing e with
  | zero => rfl
  | succ n ih => exact ih _

@[simp] theorem Expander.afterSending_pins (board : Half) (e : Expander) (n : Nat) :
    (e.afterSending board n).pins board = e.pins board := by
  induction n generalizing e with
  | zero => rfl
  | succ n ih => exact ih _

/-! ## The end of an attempt -/

/-- A stop after which nothing is left to do. -/
def WireRun.stopped (e : Expander) : WireRun :=
  { expander := e, wire := [.stop], levels := stopLevels true, received := [], result := .succeeded }

theorem Expander.run_stop_spared {b : BayId} {board : Half} {d : Disturbance} {k : Nat} {ph : WirePhase}
    {e : Expander} (hd : d.Spares k) : Expander.run b board d k ph [.stop] e = WireRun.stopped e :=
  Expander.run_cons_spared (bs := []) hd rfl

/-- A course that nothing disturbs, and the stop. -/
theorem Expander.Course.run_quiet {b : BayId} {board : Half} {e e' : Expander} {ph ph' : WirePhase}
    {c : List (WireItem × Byte)} (h : Expander.Course b board e ph c e' ph') (k : Nat) :
    Expander.run b board .quiet k ph (c.map Prod.fst ++ [.stop]) e = (WireRun.stopped e').precededBy c := by
  rw [h.run_eq (fun i _ _ => Disturbance.quiet_spares i), Expander.run_stop_spared (Disturbance.quiet_spares _)]

/-! ## Shapes (R99) -/

theorem writeShape_eq (b : BayId) (c : Written) :
    writeShape b c = (writeHeader b 0x02 ++ sendings (c.image.encode c.dirs).bytes).map Prod.fst ++ [.stop] := by
  simp [writeShape, writeHeader, addressing]

theorem readShape_eq (b : BayId) (i : Byte) (n : Nat) :
    readShape b i n = (readHeader b i).map Prod.fst ++ (List.replicate n (.recv true) ++ [.recv false, .stop]) := by
  simp [readShape, readHeader, writeHeader, addressing]

/-- The three kinds of shape: a probe, a read, and a write that carries an image. -/
theorem Entry.shape_cases {t : Entry}
    (h : t.carried ≠ none ∨ (t.kind ≠ .outputWrite ∧ t.kind ≠ .setup .forceSafe)) :
    t.shape = (addressing t.bay).map Prod.fst ++ [.stop] ∨
      (∃ i n, i.toNat < 16 ∧ t.shape = readShape t.bay i n) ∨ ∃ c, t.shape = writeShape t.bay c := by
  have hwrite (hk : t.kind = .outputWrite ∨ t.kind = .setup .forceSafe) :
      ((t.carried.map (writeShape t.bay)).getD []) = t.shape ∧ ∃ c, t.carried = some c := by
    refine ⟨by rcases hk with hk | hk <;> rw [Entry.shape, hk], Option.ne_none_iff_exists'.mp (h.resolve_right ?_)⟩
    rintro ⟨hout, hsafe⟩
    exact hk.elim hout hsafe
  have hcarried (hk : t.kind = .outputWrite ∨ t.kind = .setup .forceSafe) : ∃ c, t.shape = writeShape t.bay c := by
    obtain ⟨hshape, c, hc⟩ := hwrite hk
    exact ⟨c, by rw [← hshape, hc]; rfl⟩
  match hk : t.kind with
  | .probe => exact .inl (by rw [Entry.shape, hk]; rfl)
  | .setup .identRead => exact .inr (.inl ⟨0x0F, 0, by decide, by rw [Entry.shape, hk]⟩)
  | .setup .setupRead => exact .inr (.inl ⟨0x02, 7, by decide, by rw [Entry.shape, hk]⟩)
  | .setup .seedingRead => exact .inr (.inl ⟨0x00, 5, by decide, by rw [Entry.shape, hk]⟩)
  | .inputRead => exact .inr (.inl ⟨0x00, 5, by decide, by rw [Entry.shape, hk]⟩)
  | .setup .forceSafe => exact .inr (.inr (hcarried (.inr hk)))
  | .outputWrite => exact .inr (.inr (hcarried (.inl hk)))

/-- The items of a read of `n + 1` bytes from index `i` on, up to its stop (R99). -/
def Expander.readCourse (board : Half) (e : Expander) (b : BayId) (i : Byte) (n : Nat) : List (WireItem × Byte) :=
  readHeader b i ++ readings ((e.atIndex i).sentBytes board n) ++
    [(.recv false, (((e.atIndex i).afterSending board n).send board).1)]

theorem Expander.readCourse_items (board : Half) (e : Expander) (b : BayId) (i : Byte) (n : Nat) :
    (e.readCourse board b i n).map Prod.fst ++ [.stop] = readShape b i n := by
  simp [Expander.readCourse, readShape_eq]

@[simp] theorem Expander.readCourse_received (board : Half) (e : Expander) (b : BayId) (i : Byte) (n : Nat) :
    ((e.readCourse board b i n).filter fun p => p.1.isRecv).map Prod.snd = (e.atIndex i).sentBytes board (n + 1) := by
  rw [Expander.readCourse, List.filter_append, List.map_append, List.filter_append, List.map_append,
    readHeader_received, readings_received, ← Expander.sentBytes_succ_last]
  rfl

theorem Expander.course_read {b : BayId} {board : Half} {e : Expander} {ph : WirePhase} {i : Byte}
    (hi : i.toNat < 16) (n : Nat) :
    Expander.Course b board e ph (e.readCourse board b i n) ((e.atIndex i).afterSending board (n + 1)) .idle := by
  rw [← Expander.afterSending_succ_last]
  exact ((Expander.course_readHeader hi).append (Expander.course_readings b board _ n)).append
    (.cons (bs := [_]) rfl (.nil _ _))

/-- The whole course of a write, up to its stop. -/
theorem Expander.course_write (b : BayId) (board : Half) (e : Expander) (ph : WirePhase) (bs : List Byte) :
    Expander.Course b board e ph (writeHeader b 0x02 ++ sendings bs) ((e.atIndex 0x02).storeAll bs) .storing :=
  (Expander.course_writeHeader (by decide)).append (Expander.course_storeAll b board _ bs)

/-- An attempt that nothing disturbs is the course of its shape and a stop at its end alone. -/
theorem Expander.attempt_quiet (e : Expander) {t : Entry} (board : Half)
    (h : t.carried ≠ none ∨ (t.kind ≠ .outputWrite ∧ t.kind ≠ .setup .forceSafe)) :
    ∃ c e', e.attempt t board .quiet = (WireRun.stopped e').precededBy c ∧ t.shape = c.map Prod.fst ++ [.stop] ∧
      .stop ∉ c.map Prod.fst := by
  have hquiet {c : List (WireItem × Byte)} {e' : Expander} {ph : WirePhase}
      (hc : Expander.Course t.bay board e .idle c e' ph) (hshape : t.shape = c.map Prod.fst ++ [.stop]) :
      e.attempt t board .quiet = (WireRun.stopped e').precededBy c := by
    rw [Expander.attempt, hshape, hc.run_quiet]
  rcases Entry.shape_cases h with hshape | ⟨i, n, hi, hshape⟩ | ⟨c, hshape⟩
  · exact ⟨_, _, hquiet (e.course_addressing t.bay board .idle) hshape, hshape, by simp [addressing]⟩
  · have heq := hshape.trans (e.readCourse_items board t.bay i n).symm
    exact ⟨_, _, hquiet (Expander.course_read hi n) heq, heq,
      by simp [Expander.readCourse, readHeader, writeHeader, addressing]⟩
  · have heq := hshape.trans (writeShape_eq t.bay c)
    exact ⟨_, _, hquiet (e.course_write t.bay board .idle _) heq, heq,
      by simp [writeHeader, addressing]⟩

/-! ## The conditions of a course (R99) -/

theorem stopsIn_course_append {c : List (WireItem × Byte)} (hc : .stop ∉ c.map Prod.fst) (l : List WireLevels) :
    stopsIn (c.flatMap (fun p => p.1.levels p.2 true) ++ l) = stopsIn l := by
  induction c with
  | nil => rfl
  | cons p c ih =>
    obtain ⟨hp, hc⟩ := not_or.mp (List.mem_cons.not.mp hc)
    rw [List.flatMap_cons, List.append_assoc, stopsIn_levels_append (Ne.symm hp), ih hc]

theorem startsIn_course_append {c : List (WireItem × Byte)} (hc : .stop ∉ c.map Prod.fst) (l : List WireLevels) :
    startsIn (c.flatMap (fun p => p.1.levels p.2 true) ++ l) =
      (c.map Prod.fst).countP (fun x => x = .start || x = .repeatedStart) + startsIn l := by
  induction c with
  | nil => simp
  | cons p c ih =>
    obtain ⟨hp, hc⟩ := not_or.mp (List.mem_cons.not.mp hc)
    rw [List.flatMap_cons, List.append_assoc, startsIn_levels_append (Ne.symm hp), ih hc, List.map_cons,
      List.countP_cons]
    omega

/-- Settles O13: levels bit by bit, attempts as courses of items, and passes clock by clock. -/
theorem wireLevelsOfAttemptsAndPasses : Obligations.WireLevelsOfAttemptsAndPasses := by
  refine ⟨fun v acked => ⟨clockedData_bits _, startsIn_bits _, stopsIn_bits _⟩, by decide, fun e t board h => ?_,
    recoveryPass_whole, recoveryPass_cut, fun v sent => ?_, fun n s => ⟨fun h => ?_, fun hr tx a sp st h => ?_⟩⟩
  · obtain ⟨c, e', hrun, hshape, hc⟩ := e.attempt_quiet board h
    simp only [hrun, hshape]
    refine ⟨rfl, rfl, ?_, ?_, _, rfl⟩
    · exact stopsIn_course_append hc _
    · rw [List.countP_append]
      exact startsIn_course_append hc _
  · rw [(recoveryPass_whole _).2.2, cutSender_released, if_pos rfl]
  · have hquiet := State.drivesBus_quiet h
    exact ⟨hquiet, fun ender => by rw [State.wireEnd, hquiet]; rfl⟩
  · have hdrives := State.drivesBus_working hr h
    have hend (ender : WireEnder) : s.wireEnd n ender = some (if ender = .resetN then .released else .stopped) :=
      if_pos hdrives
    exact ⟨hdrives, hend _, hend _, fun _ => hend _⟩

end Sys2Proof.Machine

/-! # Writes and reads of an expander's registers (R93, R97, R99) -/

namespace Sys2Proof.Machine

/-! ## The bytes of the registers (R93, R99) -/

@[simp] theorem lowByte_withLow (h : Half) (v : Byte) : lowByte (withLow h v) = v :=
  BitVec.extractLsb'_append_eq_right

@[simp] theorem highByte_withLow (h : Half) (v : Byte) : highByte (withLow h v) = highByte h :=
  BitVec.extractLsb'_append_eq_left

@[simp] theorem lowByte_withHigh (h : Half) (v : Byte) : lowByte (withHigh h v) = lowByte h :=
  BitVec.extractLsb'_append_eq_right

@[simp] theorem highByte_withHigh (h : Half) (v : Byte) : highByte (withHigh h v) = v :=
  BitVec.extractLsb'_append_eq_left

/-- A register pair is its two bytes. -/
theorem append_highByte_lowByte (h : Half) : (highByte h).append (lowByte h) = h :=
  (BitVec.extractLsb'_append_extractLsb'_eq_extractLsb' (x := h) (start₁ := 0) (len₁ := 8) (start₂ := 8)
    (len₂ := 8) rfl).trans BitVec.extractLsb'_eq_self

theorem half_eq_of_bytes {g h : Half} (hlow : lowByte g = lowByte h) (hhigh : highByte g = highByte h) : g = h := by
  rw [← append_highByte_lowByte g, hlow, hhigh, append_highByte_lowByte]

@[simp] theorem Regs.bytes_length (r : Regs) : r.bytes.length = 8 := rfl

/-- The eight bytes tell the registers. -/
theorem Regs.bytes_inj {r r' : Regs} (h : r.bytes = r'.bytes) : r = r' := by
  obtain ⟨o, d, b, f⟩ := r
  obtain ⟨o', d', b', f'⟩ := r'
  simp only [Regs.bytes, List.cons.injEq, and_true] at h
  obtain ⟨ho, ho', hd, hd', hb, hb', hf, hf'⟩ := h
  rw [half_eq_of_bytes ho ho', half_eq_of_bytes hd hd', half_eq_of_bytes hb hb', half_eq_of_bytes hf hf']

/-- A byte stored at index `2 + m` replaces byte `m` of the eight (R93). -/
theorem Regs.bytes_store (r : Regs) (v : Byte) {m : Nat} (hm : m < 8) :
    (r.store v (BitVec.ofNat 4 (2 + m))).bytes = r.bytes.take m ++ [v] ++ r.bytes.drop (m + 1) := by
  interval_cases m <;> simp [Regs.store, Regs.bytes]

/-- Bytes stored from index `2 + m` on replace the eight bytes from byte `m` on (R93, R99). -/
theorem Expander.bytes_storeAll {e : Expander} {m : Nat} {bs : List Byte} (hp : e.pointer = BitVec.ofNat 4 (2 + m))
    (hm : m + bs.length ≤ 8) :
    (e.storeAll bs).regs.bytes = e.regs.bytes.take m ++ bs ++ e.regs.bytes.drop (m + bs.length) := by
  induction bs generalizing e m with
  | nil => simp [Expander.storeAll]
  | cons v bs ih =>
    rw [List.length_cons] at hm
    have hregs : (e.store v).regs.bytes = e.regs.bytes.take m ++ [v] ++ e.regs.bytes.drop (m + 1) := by
      rw [← Regs.bytes_store e.regs v (by omega), ← hp]; rfl
    have hlen : (e.regs.bytes.take m ++ [v]).length = m + 1 := by simp; omega
    calc ((e.store v).storeAll bs).regs.bytes
        = (e.store v).regs.bytes.take (m + 1) ++ bs ++ (e.store v).regs.bytes.drop (m + 1 + bs.length) :=
          ih (by rw [Expander.store_pointer, hp]; bv_omega) (by omega)
      _ = e.regs.bytes.take m ++ [v] ++ bs ++ (e.regs.bytes.drop (m + 1)).drop bs.length := by
          rw [hregs, List.take_left' hlen, ← List.drop_drop, List.drop_left' hlen]
      _ = e.regs.bytes.take m ++ v :: bs ++ e.regs.bytes.drop (m + (v :: bs).length) := by
          rw [List.drop_drop, List.length_cons, Nat.add_right_comm, Nat.add_assoc m]; simp

/-- The first bytes of a write are stored, and the old bytes stay for the rest (R93). -/
theorem Expander.bytes_write (e : Expander) (bs : List Byte) (hbs : bs.length ≤ 8) :
    ((e.atIndex 0x02).storeAll bs).regs.bytes = bs ++ e.regs.bytes.drop bs.length := by
  simpa using Expander.bytes_storeAll (e := e.atIndex 0x02) (m := 0) rfl (by omega)

/-- A whole write leaves its encoding in the registers (R97, R99). -/
theorem Expander.regs_write (e : Expander) (r : Regs) : ((e.atIndex 0x02).storeAll r.bytes).regs = r :=
  Regs.bytes_inj ((e.bytes_write r.bytes (Nat.le_refl 8)).trans (List.append_nil _))

/-- A read of eight bytes from OUTPUT low on sends the bytes of the registers (R93). -/
theorem Expander.sentBytes_setupRead (e : Expander) (board : Half) :
    (e.atIndex 0x02).sentBytes board 8 = e.regs.bytes := by
  simp [Expander.sentBytes, Expander.send, Expander.atIndex, Expander.peek, Regs.bytes]

/-- A read of six bytes from INPUT low on sends INPUT, OUTPUT and DIRECTION (R93). -/
theorem Expander.sentBytes_inputRead (e : Expander) (board : Half) :
    (e.atIndex 0x00).sentBytes board 6 = [lowByte (e.pins board), highByte (e.pins board), lowByte e.regs.output,
      highByte e.regs.output, lowByte e.regs.direction, highByte e.regs.direction] := by
  simp [Expander.sentBytes, Expander.send, Expander.atIndex, Expander.peek, Expander.pins, Expander.driven]

/-! ## What the lines show (R93, R96, R97, R101) -/

/-- An indicator line shows its mode (R97). -/
theorem IndMode.shows_bits (m : IndMode) :
    (if m.blinkBit then LineDrive.blinking m.rateBit else .steady m.outputBit) = m.shows := by
  cases m <;> rfl

/-- An expander that holds an encoding shows its image (R96, R97). -/
theorem Expander.shows_encode {e : Expander} {i : Image} {d : Dirs} (h : e.regs = i.encode d) :
    e.shows = i.shows d := by
  have haux (out level : Bool) : (if out then LineDrive.steady (level && out) else .input) =
      if out then .steady level else .input := by
    cases out <;> simp
  simp [Expander.shows, h, Regs.lineDrive, Image.encode, requiredDirection, Image.shows, IndMode.shows_bits, haux]

/-- The level of a pin, by the registers (R93, R97, R101). -/
theorem Expander.getLsbD_pins (e : Expander) (board : Half) (i : Fin 16) :
    (e.pins board).getLsbD i =
      if e.regs.direction.getLsbD i then
        if e.regs.blink.getLsbD i then e.blinkHigh.getLsbD i else e.regs.output.getLsbD i
      else board.getLsbD i := by
  cases hd : e.regs.direction.getLsbD i <;> cases hb : e.regs.blink.getLsbD i <;>
    simp_all [Expander.pins, Expander.driven]

/-- A steady output line has its OUTPUT level on its pin, and an input line the level of the board (R93, R101). -/
theorem Expander.pins_of_lineDrive (e : Expander) (i : Fin 16) (board : Half) :
    (∀ high, e.regs.lineDrive i = .steady high → (e.pins board).getLsbD i.val = high) ∧
      (e.regs.lineDrive i = .input → (e.pins board).getLsbD i.val = board.getLsbD i.val) := by
  rw [Expander.getLsbD_pins, Regs.lineDrive]
  split
  · split
    · exact ⟨nofun, nofun⟩
    · exact ⟨fun high h => LineDrive.steady.inj h, nofun⟩
  · exact ⟨nofun, fun _ => rfl⟩

/-! ## Undisturbed attempts -/

/-- A write that nothing disturbs. -/
theorem Expander.attempt_write_quiet (e : Expander) {t : Entry} {c : Written} (board : Half)
    (ht : t.shape = writeShape t.bay c) :
    e.attempt t board .quiet =
      (WireRun.stopped ((e.atIndex 0x02).storeAll (c.image.encode c.dirs).bytes)).precededBy
        (writeHeader t.bay 0x02 ++ sendings (c.image.encode c.dirs).bytes) := by
  rw [Expander.attempt, ht, writeShape_eq, (e.course_write t.bay board .idle _).run_quiet]

/-- A read that nothing disturbs, of `n + 1` bytes from index `i` on. -/
theorem Expander.attempt_read_quiet (e : Expander) {t : Entry} (board : Half) {i : Byte} {n : Nat}
    (ht : t.shape = readShape t.bay i n) (hi : i.toNat < 16) :
    let run := e.attempt t board .quiet
    run.result = .succeeded ∧ run.wire = t.shape ∧ run.received = (e.atIndex i).sentBytes board (n + 1) ∧
      run.expander = (e.atIndex i).afterSending board (n + 1) := by
  have hrun : e.attempt t board .quiet =
      (WireRun.stopped ((e.atIndex i).afterSending board (n + 1))).precededBy (e.readCourse board t.bay i n) := by
    rw [Expander.attempt, ht, ← e.readCourse_items board, (Expander.course_read hi n).run_quiet]
  simp only [hrun, ht]
  exact ⟨rfl, e.readCourse_items board t.bay i n, by simp [WireRun.stopped], rfl⟩

/-- The snapshot is taken at index 0 alone (R95). -/
theorem Expander.afterSending_snapshot {board : Half} {e : Expander} {n : Nat}
    (h : ∀ i < n, e.pointer + BitVec.ofNat 4 i ≠ 0) : (e.afterSending board n).snapshot = e.snapshot := by
  induction n generalizing e with
  | zero => rfl
  | succ n ih =>
    have hp : e.pointer ≠ 0 := by simpa using h 0 (Nat.succ_pos n)
    have hrest := ih (e := (e.send board).2) fun i hi => by
      have hne := h (i + 1) (Nat.succ_lt_succ hi)
      rw [BitVec.ofNat_add, BitVec.add_comm (BitVec.ofNat 4 i), ← BitVec.add_assoc] at hne
      exact hne
    exact hrest.trans (if_neg hp)

/-- Settles O14: the eight bytes of a write are the eight of its encoding, which a SETUP_READ sends back. -/
theorem expanderKeepsWrite : Obligations.ExpanderKeepsWrite := by
  refine ⟨fun e b c board => ?_, Expander.pins_of_lineDrive⟩
  dsimp only
  have hwrite := e.attempt_write_quiet board (c := c)
    (t := { kind := .outputWrite, bay := b, urgent := false, waiters := .none, carried := some c }) rfl
  have hregs := e.regs_write (c.image.encode c.dirs)
  rw [hwrite]
  obtain ⟨hresult, hwire, hreceived, hexpander⟩ :=
    Expander.attempt_read_quiet ((e.atIndex 0x02).storeAll (c.image.encode c.dirs).bytes) board
      (t := { kind := .setup .setupRead, bay := b, urgent := false, waiters := .none, carried := none }) rfl (by decide)
  refine ⟨rfl, (writeShape_eq b c).symm, by simp [WireRun.stopped],
    hregs, by simp [WireRun.stopped], Expander.shows_encode hregs, hresult, hwire, ?_, ?_, ?_⟩
  · exact hreceived.trans ((Expander.sentBytes_setupRead _ board).trans (congrArg Regs.bytes hregs))
  · exact (congrArg Expander.regs hexpander).trans (by simp [WireRun.stopped])
  · refine (congrArg Expander.snapshot hexpander).trans ((Expander.afterSending_snapshot ?_).trans (by simp))
    change ∀ i < 8, (0x02 : BitVec 4) + BitVec.ofNat 4 i ≠ 0
    decide

end Sys2Proof.Machine

/-! # Attempts that fail, and reads (R93, R95, R100) -/

namespace Sys2Proof.Machine

/-! ## The item that a disturbance meets (R100) -/

/-- A byte that is not acknowledged: the part sends a stop at once (R100). -/
theorem Expander.run_refused (b : BayId) (board : Half) (k : Nat) (ph : WirePhase) (v : Byte)
    (rest : List WireItem) (e : Expander) :
    Expander.run b board (.refused k) k ph (.send v :: rest) e =
      { expander := e, wire := [.send v, .stop], levels := byteLevels v false ++ stopLevels true, received := [],
        result := .nack } := by
  simp only [Expander.run, Disturbance.lowBits_refused, WireItem.onWire_zero, Disturbance.cutAt_refused]
  simp [WireItem.isSend, WireItem.isCondition, WireItem.levels]

/-- A clock that is held low: the attempt ends by timeout, and the item has done nothing (R100, log entry 13). -/
theorem Expander.run_clockHeld {b : BayId} {board : Half} {k bit : Nat} {ph : WirePhase} {items : List WireItem}
    {e : Expander} (h : items ≠ []) :
    let run := Expander.run b board (.clockHeld k bit) k ph items e
    run.expander = e ∧ run.wire = [] ∧ run.result = .timeout := by
  obtain ⟨x, rest, rfl⟩ := List.exists_cons_of_ne_nil h
  have hcut : (Disturbance.clockHeld k bit).cutAt k = some (bit, .clockHeld) := if_pos rfl
  rw [Expander.run, hcut]
  exact ⟨rfl, rfl, rfl⟩

/-- A condition that is due while the data line is held: the attempt ends by timeout (R100). -/
theorem Expander.run_condition_held {b : BayId} {board : Half} {d : Disturbance} {k : Nat} {ph : WirePhase}
    {x : WireItem} {rest : List WireItem} {e : Expander} (hcut : d.cutAt k = none) (hx : x.isCondition = true)
    (hlow : d.lowBits k ≠ 0) :
    Expander.run b board d k ph (x :: rest) e =
      { expander := e, wire := [], levels := [], received := [], result := .timeout } := by
  have hheld : (x.isCondition && decide (d.lowBits k ≠ 0)) = true := by rw [hx, decide_eq_true hlow]; rfl
  rw [Expander.run, hcut]
  exact if_pos hheld

/-! ## Writes that fail (R99, R100) -/

theorem writeShape_split {b : BayId} {c : Written} {pre post : List Byte}
    (h : (c.image.encode c.dirs).bytes = pre ++ post) :
    writeShape b c = (writeHeader b 0x02 ++ sendings pre).map Prod.fst ++ (post.map .send ++ [.stop]) := by
  simp [writeShape_eq, h]

/-- A write whose header and first data bytes nothing disturbs. -/
theorem Expander.attempt_write_spared (e : Expander) {t : Entry} {c : Written} (board : Half)
    (ht : t.shape = writeShape t.bay c) {pre post : List Byte} (h : (c.image.encode c.dirs).bytes = pre ++ post)
    {d : Disturbance} (hd : ∀ k < 3 + pre.length, d.Spares k) :
    e.attempt t board d =
      (Expander.run t.bay board d (3 + pre.length) .storing (post.map .send ++ [.stop])
        ((e.atIndex 0x02).storeAll pre)).precededBy (writeHeader t.bay 0x02 ++ sendings pre) := by
  have hlen : 0 + (writeHeader t.bay 0x02 ++ sendings pre).length = 3 + pre.length := by
    rw [Nat.zero_add, List.length_append, sendings_length]; rfl
  rw [Expander.attempt, ht, writeShape_split h,
    (e.course_write t.bay board .idle pre).run_eq fun k _ hk => hd k (by omega), hlen]

theorem and_seven_of_lowByte {g h : Half} (heq : lowByte g = lowByte h) : g &&& 7 = h &&& 7 := by
  have hlow (x : Half) : x &&& 7 = (lowByte x).setWidth 16 &&& 7 := by
    ext i hi
    interval_cases i <;> simp [lowByte]
  rw [hlow g, hlow h, heq]

/-- The registers after a write that stored its first `j` bytes: the power lines, OUTPUT low bits 0 to 2, are all
old or all new (R93, R99). -/
theorem Regs.powerLines_of_bytes {r old new : Regs} {j : Nat} (h : r.bytes = new.bytes.take j ++ old.bytes.drop j) :
    r.output &&& 7 = old.output &&& 7 ∨ r.output &&& 7 = new.output &&& 7 := by
  cases j with
  | zero => exact .inl (congrArg (·.output &&& 7) (Regs.bytes_inj h))
  | succ j => exact .inr (and_seven_of_lowByte (List.cons.inj h).1)

/-- What a write that fails in data byte `j` leaves in the registers (R93, R99). -/
theorem Expander.write_cut_regs (e : Expander) (new : Regs) {j : Nat} (hj : j < 8) :
    ((e.atIndex 0x02).storeAll (new.bytes.take j)).regs.bytes = new.bytes.take j ++ e.regs.bytes.drop j ∧
      (((e.atIndex 0x02).storeAll (new.bytes.take j)).regs.output &&& 7 = e.regs.output &&& 7 ∨
        ((e.atIndex 0x02).storeAll (new.bytes.take j)).regs.output &&& 7 = new.output &&& 7) := by
  have hlen : (new.bytes.take j).length = j := List.length_take_of_le (Nat.le_of_lt hj)
  have hstored := e.bytes_write (new.bytes.take j) (by omega)
  rw [hlen] at hstored
  exact ⟨hstored, Regs.powerLines_of_bytes hstored⟩

/-- The data bytes of a write around byte `j`. -/
theorem Regs.bytes_split (r : Regs) {j : Nat} (hj : j < 8) :
    (r.bytes.take j).length = j ∧ ∃ v post, r.bytes = r.bytes.take j ++ v :: post := by
  obtain ⟨v, post, hpost⟩ : ∃ v post, r.bytes.drop j = v :: post :=
    List.exists_cons_of_ne_nil fun hnil => absurd (List.drop_eq_nil_iff.mp hnil) (Nat.not_le.mpr hj)
  exact ⟨List.length_take_of_le (Nat.le_of_lt hj), v, post, by rw [← hpost, List.take_append_drop]⟩

/-- A write that is not acknowledged in data byte `j`: the bytes before it are stored, and a stop follows it (R99,
R100). -/
theorem Expander.attempt_write_refused (e : Expander) {t : Entry} {c : Written} (board : Half)
    (ht : t.shape = writeShape t.bay c) {j : Nat} (hj : j < 8) :
    let run := e.attempt t board (.refused (3 + j))
    run.result = .nack ∧ run.wire = t.shape.take (4 + j) ++ [.stop] ∧
      run.expander = (e.atIndex 0x02).storeAll ((c.image.encode c.dirs).bytes.take j) := by
  obtain ⟨hpre, v, post, hbytes⟩ := (c.image.encode c.dirs).bytes_split hj
  generalize (c.image.encode c.dirs).bytes.take j = pre at hpre hbytes ⊢
  subst hpre
  have hshape : t.shape = (writeHeader t.bay 0x02 ++ sendings pre ++ [(WireItem.send v, 0xFF)]).map Prod.fst ++
      (post.map .send ++ [.stop]) := by
    rw [ht, writeShape_split hbytes]; simp
  have hlen : ((writeHeader t.bay 0x02 ++ sendings pre ++ [(WireItem.send v, 0xFF)]).map Prod.fst).length =
      4 + pre.length := by
    simp [writeHeader, addressing]; omega
  simp only [e.attempt_write_spared board ht hbytes (d := .refused (3 + pre.length))
    fun k hk => Disturbance.refused_spares (by omega), List.map_cons, List.cons_append, Expander.run_refused]
  refine ⟨rfl, ?_, rfl⟩
  rw [hshape, List.take_left' hlen]
  simp

/-- A write whose clock is held in data byte `j`: the bytes before it are stored, and nothing follows (R100). -/
theorem Expander.attempt_write_clockHeld (e : Expander) {t : Entry} {c : Written} (board : Half)
    (ht : t.shape = writeShape t.bay c) {j : Nat} (hj : j < 8) (bit : Nat) :
    let run := e.attempt t board (.clockHeld (3 + j) bit)
    run.result = .timeout ∧ run.wire = t.shape.take (3 + j) ∧
      run.expander = (e.atIndex 0x02).storeAll ((c.image.encode c.dirs).bytes.take j) := by
  obtain ⟨hpre, v, post, hbytes⟩ := (c.image.encode c.dirs).bytes_split hj
  generalize (c.image.encode c.dirs).bytes.take j = pre at hpre hbytes ⊢
  subst hpre
  have hlen : ((writeHeader t.bay 0x02 ++ sendings pre).map Prod.fst).length = 3 + pre.length := by
    simp [writeHeader, addressing]; omega
  obtain ⟨hexpander, hwire, hresult⟩ := Expander.run_clockHeld (b := t.bay) (board := board) (k := 3 + pre.length)
    (bit := bit) (ph := .storing) (items := (v :: post).map .send ++ [.stop]) (e := (e.atIndex 0x02).storeAll pre)
    (List.cons_ne_nil _ _)
  simp only [e.attempt_write_spared board ht hbytes (d := .clockHeld (3 + pre.length) bit)
    fun k hk => Disturbance.clockHeld_spares (by omega)]
  refine ⟨hresult, ?_, hexpander⟩
  rw [WireRun.precededBy_wire, hwire, ht, writeShape_split hbytes, List.take_left' hlen, List.append_nil]

/-! ## Reads, however they are disturbed (R93, R95) -/

/-- Everything an item can come to: the attempt ends before the expander has taken it; the expander takes it as the
wire carries it; or the expander, which is not addressed, lets a byte pass, which a byte from the part survives
through a hold of its acknowledge bit alone (R99, R100). -/
theorem Expander.run_cons_cases (b : BayId) (board : Half) (d : Disturbance) (k : Nat) (ph : WirePhase)
    (x : WireItem) (rest : List WireItem) (e : Expander) :
    let run := Expander.run b board d k ph (x :: rest) e
    run.expander = e ∨
      (∃ e' ph' bs, e.take b board ph (x.onWire (d.lowBits k)) = some (e', ph', bs) ∧
        run.expander = (Expander.run b board d (k + 1) ph' rest e').expander) ∨
      (x.isCondition = false ∧ (x.isSend = true → (d.lowBits k).getLsbD 0 = true) ∧
        run.expander = (Expander.run b board d (k + 1) .idle rest e).expander) := by
  rw [Expander.run]
  dsimp only
  generalize htaken : (if (decide (d = .refused k) && x.isSend) = true then none
    else e.take b board ph (x.onWire (d.lowBits k))) = taken
  split
  · exact .inl rfl
  · split
    · exact .inl rfl
    · split
      · exact .inl rfl
      · next hack =>
        refine .inr ?_
        cases taken with
        | some p =>
          split at htaken
          · cases htaken
          · exact .inl ⟨p.1, p.2.1, p.2.2, htaken, rfl⟩
        | none =>
          refine .inr ⟨?_, fun hx => by simpa [hx] using hack, rfl⟩
          cases x with
          | send v => rfl
          | recv ack => rfl
          | _ => simp [WireItem.isSend, WireItem.onWire, Expander.take] at htaken

/-- The bytes that have come since the address, as the expander takes them: an index, and data (R93). -/
def WirePhase.heard : WirePhase → Nat
  | .index => 1
  | .storing => 2
  | _ => 0

/-- At most `m` bytes from the part come between one condition and the next; `n` have come already. -/
def sendsAtMost (m : Nat) : Nat → List WireItem → Bool
  | _, [] => true
  | n, .send _ :: rest => decide (n < m) && sendsAtMost m (n + 1) rest
  | n, .recv _ :: rest => sendsAtMost m n rest
  | _, _ :: rest => sendsAtMost m 0 rest

/-- Everything a byte from the part can come to (R93). -/
theorem Expander.take_send_cases {b : BayId} {board : Half} {e e' : Expander} {ph ph' : WirePhase} {v : Byte}
    {bs : List Byte} (h : e.take b board ph (.send v) = some (e', ph', bs)) :
    (ph.heard = 0 ∧ ph'.heard ≤ 1 ∧ e' = e) ∨ (ph.heard = 1 ∧ ph'.heard = 2 ∧ e' = e.atIndex v) ∨
      (ph.heard = 2 ∧ ph'.heard = 2 ∧ e' = e.store v) := by
  cases ph with
  | idle => cases h
  | sending => cases h
  | storing => cases h; exact .inr (.inr ⟨rfl, rfl, rfl⟩)
  | index =>
    obtain ⟨e₁, he₁, heq⟩ := Option.map_eq_some_iff.mp h
    cases heq
    exact .inr (.inl ⟨rfl, rfl, (Expander.setPointer_eq_some he₁).2⟩)
  | address =>
    simp only [Expander.take] at h
    split at h
    · cases h; exact .inl ⟨rfl, Nat.le_refl 1, rfl⟩
    · split at h
      · cases h; exact .inl ⟨rfl, Nat.zero_le 1, rfl⟩
      · cases h

/-- Everything a byte to the part can come to (R93, R95). -/
theorem Expander.take_recv_cases {b : BayId} {board : Half} {e e' : Expander} {ph ph' : WirePhase} {ack : Bool}
    {bs : List Byte} (h : e.take b board ph (.recv ack) = some (e', ph', bs)) :
    ph'.heard = 0 ∧ e' = (e.send board).2 := by
  cases ph with
  | sending => cases h; cases ack <;> exact ⟨rfl, rfl⟩
  | _ => cases h

/-- A property of the expander, with `r` bytes to the part still to come, that an attempt keeps with at most `m` bytes
from the part between one condition and the next: an index, if `m` allows one, and bytes sent to the part keep it. -/
structure Expander.ReadKeeps (m : Nat) (board : Half) (P : Nat → Expander → Prop) : Prop where
  cut : ∀ {r e}, P r e → P 0 e
  passed : ∀ {r e}, P (r + 1) e → P r e
  sent : ∀ {r e}, P (r + 1) e → P r (e.send board).2
  indexed : ∀ {r e v}, 1 < m → P r e → P r (e.atIndex v)

/-- Such a property holds after an attempt that stores no byte, however the attempt is disturbed. -/
theorem Expander.ReadKeeps.run {m : Nat} {board : Half} {P : Nat → Expander → Prop}
    (hP : Expander.ReadKeeps m board P) (hm : m ≤ 2) {b : BayId} {d : Disturbance} {k : Nat} {ph : WirePhase}
    {items : List WireItem} {e : Expander} {n : Nat} (hheard : ph.heard ≤ n) (hsends : sendsAtMost m n items = true)
    (h : P (items.countP WireItem.isRecv) e) : P 0 (Expander.run b board d k ph items e).expander := by
  induction items generalizing k ph e n with
  | nil => exact h
  | cons x rest ih =>
    have hcount (ack : Bool) : (WireItem.recv ack :: rest).countP WireItem.isRecv =
        rest.countP WireItem.isRecv + 1 := List.countP_cons_of_pos rfl
    rcases Expander.run_cons_cases b board d k ph x rest e with hrun | ⟨e', ph', bs, htake, hrun⟩ | ⟨hx, -, hrun⟩ <;>
      rw [hrun]
    · exact hP.cut h
    · cases x with
      | send v =>
        obtain ⟨hn, hrest⟩ := Bool.and_eq_true_iff.mp hsends
        have hn := of_decide_eq_true hn
        rcases Expander.take_send_cases htake with ⟨h0, h1, rfl⟩ | ⟨h1, h2, rfl⟩ | ⟨h2, h2', rfl⟩
        · exact ih (by omega) hrest h
        · exact ih (by omega) hrest (hP.indexed (by omega) h)
        · omega
      | recv ack =>
        obtain ⟨h0, rfl⟩ := Expander.take_recv_cases htake
        exact ih (n := n) (by omega) hsends (hP.sent (hcount ack ▸ h))
      | _ => cases htake; exact ih (n := 0) (Nat.le_refl 0) hsends h
    · cases x with
      | send v => exact ih (Nat.zero_le _) (Bool.and_eq_true_iff.mp hsends).2 h
      | recv ack => exact ih (n := n) (Nat.zero_le n) hsends (hP.passed (hcount ack ▸ h))
      | _ => cases hx

theorem Expander.readKeeps_regs (board : Half) (regs : Regs) :
    Expander.ReadKeeps 2 board fun _ e => e.regs = regs :=
  ⟨id, id, id, fun _ => id⟩

/-- With `r` bytes to the part still to come, the pointer does not come to INPUT low. -/
def Expander.avoidsInput (e : Expander) (r : Nat) : Prop := ∀ i < r, e.pointer + BitVec.ofNat 4 i ≠ 0

theorem Expander.avoidsInput.send {e : Expander} {board : Half} {r : Nat} (h : e.avoidsInput (r + 1)) :
    (e.send board).2.avoidsInput r := fun i hi => by
  have hne := h (i + 1) (Nat.succ_lt_succ hi)
  rwa [BitVec.ofNat_add, BitVec.add_comm (BitVec.ofNat 4 i), ← BitVec.add_assoc] at hne

theorem Expander.avoidsInput.send_snapshot {e : Expander} {board : Half} {r : Nat} (h : e.avoidsInput (r + 1)) :
    (e.send board).2.snapshot = e.snapshot :=
  if_neg (by simpa using h 0 (Nat.succ_pos r))

theorem Expander.readKeeps_snapshot (board : Half) (snapshot : Option Half) :
    Expander.ReadKeeps 1 board fun r e => e.snapshot = snapshot ∧ e.avoidsInput r where
  cut := fun ⟨hs, _⟩ => ⟨hs, nofun⟩
  passed := fun ⟨hs, hp⟩ => ⟨hs, fun i hi => hp i (Nat.lt_succ_of_lt hi)⟩
  sent := fun ⟨hs, hp⟩ => ⟨hp.send_snapshot.trans hs, hp.send⟩
  indexed := fun h => absurd h (Nat.lt_irrefl 1)

/-- What holds before and after an item that the expander takes and that no hold disturbs, holds after the attempt: the
attempt ends there, or the rest follows. -/
theorem Expander.run_cons_unheld {Q : Expander → Prop} {b : BayId} {board : Half} {d : Disturbance} {k : Nat}
    {ph ph' : WirePhase} {x : WireItem} {rest : List WireItem} {e e' : Expander} {bs : List Byte}
    (hlow : x.isCondition = true ∨ d.lowBits k = 0 ∧ x.isSend = true)
    (htake : e.take b board ph x = some (e', ph', bs)) (hended : Q e)
    (hrest : Q (Expander.run b board d (k + 1) ph' rest e').expander) :
    Q (Expander.run b board d k ph (x :: rest) e).expander := by
  have honwire : x.onWire (d.lowBits k) = x := by
    rcases hlow with hx | ⟨hlow, -⟩
    · cases x with
      | send v => cases hx
      | recv ack => cases hx
      | _ => rfl
    · rw [hlow, WireItem.onWire_zero]
  rcases Expander.run_cons_cases b board d k ph x rest e with hrun | ⟨e'', ph'', bs', htake', hrun⟩ | ⟨hx, hbit, -⟩
  · rw [hrun]; exact hended
  · rw [honwire, htake] at htake'
    cases htake'
    rw [hrun]; exact hrest
  · rcases hlow with hcond | ⟨hlow, hsend⟩
    · rw [hcond] at hx; cases hx
    · rw [hlow] at hbit; exact absurd (hbit hsend) (by decide)

/-! ## The shapes of reads -/

/-- The items of a read from its repeated start on. -/
def readTail (b : BayId) (n : Nat) : List WireItem :=
  .repeatedStart :: .send (addressByte b true) :: (List.replicate n (.recv true) ++ [.recv false, .stop])

theorem readShape_eq_readTail (b : BayId) (i : Byte) (n : Nat) :
    readShape b i n = .start :: .send (addressByte b false) :: .send i :: readTail b n := by
  simp [readShape, readTail]

theorem sendsAtMost_readings (m s n : Nat) (rest : List WireItem) :
    sendsAtMost m s (List.replicate n (.recv true) ++ rest) = sendsAtMost m s rest := by
  induction n with
  | zero => rfl
  | succ n ih => exact ih

theorem sendsAtMost_readTail {m : Nat} (hm : 0 < m) (b : BayId) (s n : Nat) :
    sendsAtMost m s (readTail b n) = true := by
  simp [readTail, sendsAtMost, sendsAtMost_readings, hm]

theorem countP_readTail (b : BayId) (n : Nat) : (readTail b n).countP WireItem.isRecv = n + 1 := by
  simp [readTail, List.countP_replicate, List.countP_cons, WireItem.isRecv]

theorem sendsAtMost_readShape (b : BayId) (i : Byte) (n : Nat) : sendsAtMost 2 0 (readShape b i n) = true := by
  rw [readShape_eq_readTail]
  simpa [sendsAtMost] using sendsAtMost_readTail (by decide) b 2 n

/-- A read that begins at another index than INPUT low and does not come to it takes no snapshot, where no hold
disturbs its address and index bytes (R95, R100). -/
theorem Expander.read_keeps_snapshot {b : BayId} {board : Half} {d : Disturbance} {i : Byte} {n : Nat}
    (e : Expander) (hi : i.toNat < 16) (hlow₁ : d.lowBits 1 = 0) (hlow₂ : d.lowBits 2 = 0)
    (havoids : (e.atIndex i).avoidsInput (n + 1)) :
    (Expander.run b board d 0 .idle (readShape b i n) e).expander.snapshot = e.snapshot := by
  have htail : (Expander.run b board d 3 .storing (readTail b n) (e.atIndex i)).expander.snapshot = e.snapshot :=
    ((Expander.readKeeps_snapshot board e.snapshot).run (e := e.atIndex i) (by decide) (Nat.le_refl _)
      (sendsAtMost_readTail Nat.one_pos b _ n) ⟨rfl, by rwa [countP_readTail]⟩).1
  rw [readShape_eq_readTail]
  refine Expander.run_cons_unheld (Q := fun e' => e'.snapshot = e.snapshot) (.inl rfl) rfl rfl ?_
  refine Expander.run_cons_unheld (Q := fun e' => e'.snapshot = e.snapshot) (.inr ⟨hlow₁, rfl⟩)
    (e.take_address_write b board) rfl ?_
  exact Expander.run_cons_unheld (Q := fun e' => e'.snapshot = e.snapshot) (.inr ⟨hlow₂, rfl⟩)
    (Expander.take_index hi) rfl htail

/-- A read and a probe leave the registers alone, and the snapshot too where they do not begin at INPUT low. -/
theorem Expander.attempt_read_keeps (e : Expander) (t : Entry) (d : Disturbance) (board : Half)
    (hout : t.kind ≠ .outputWrite) (hsafe : t.kind ≠ .setup .forceSafe) :
    (e.attempt t board d).expander.regs = e.regs ∧
      (t.kind ≠ .inputRead → t.kind ≠ .setup .seedingRead → d.lowBits 1 = 0 → d.lowBits 2 = 0 →
        (e.attempt t board d).expander.snapshot = e.snapshot) := by
  have hregs (hsends : sendsAtMost 2 0 t.shape = true) : (e.attempt t board d).expander.regs = e.regs :=
    (Expander.readKeeps_regs board e.regs).run (by decide) (Nat.le_refl 0) hsends rfl
  have hread {i : Byte} {n : Nat} (hshape : t.shape = readShape t.bay i n) :
      (e.attempt t board d).expander.regs = e.regs :=
    hregs (hshape ▸ sendsAtMost_readShape t.bay i n)
  match hk : t.kind with
  | .probe =>
    have hshape : t.shape = [.start, .send (addressByte t.bay false), .stop] := by rw [Entry.shape, hk]
    refine ⟨hregs (by rw [hshape]; rfl), fun _ _ _ _ => ?_⟩
    rw [Expander.attempt, hshape]
    exact ((Expander.readKeeps_snapshot board e.snapshot).run (e := e)
      (items := [.start, .send (addressByte t.bay false), .stop]) (by decide) (Nat.le_refl 0) rfl
      ⟨rfl, fun i hi => absurd hi (Nat.not_lt_zero i)⟩).1
  | .setup .identRead =>
    have hshape : t.shape = readShape t.bay 0x0F 0 := by rw [Entry.shape, hk]
    refine ⟨hread hshape, fun _ _ hlow₁ hlow₂ => ?_⟩
    rw [Expander.attempt, hshape]
    exact e.read_keeps_snapshot (by decide) hlow₁ hlow₂ 
      (show ∀ i < 1, (0x0F : BitVec 4) + BitVec.ofNat 4 i ≠ 0 by decide)
  | .setup .setupRead =>
    have hshape : t.shape = readShape t.bay 0x02 7 := by rw [Entry.shape, hk]
    refine ⟨hread hshape, fun _ _ hlow₁ hlow₂ => ?_⟩
    rw [Expander.attempt, hshape]
    exact e.read_keeps_snapshot (by decide) hlow₁ hlow₂ 
      (show ∀ i < 8, (0x02 : BitVec 4) + BitVec.ofNat 4 i ≠ 0 by decide)
  | .setup .seedingRead =>
    exact ⟨hread (by rw [Entry.shape, hk]), fun _ hseed => absurd rfl hseed⟩
  | .inputRead => exact ⟨hread (by rw [Entry.shape, hk]), fun hinput => absurd rfl hinput⟩
  | .setup .forceSafe => exact absurd hk hsafe
  | .outputWrite => exact absurd hk hout

/-! ## An expander that is silent (R99, R100) -/

theorem Entry.shape_begins {t : Entry}
    (h : t.carried ≠ none ∨ (t.kind ≠ .outputWrite ∧ t.kind ≠ .setup .forceSafe)) :
    ∃ rest, t.shape = .start :: .send (addressByte t.bay false) :: rest := by
  rcases Entry.shape_cases h with hshape | ⟨i, n, -, hshape⟩ | ⟨c, hshape⟩ <;> exact ⟨_, hshape⟩

/-- An address that no expander acknowledges (R99, R100). -/
theorem Expander.attempt_silent (e : Expander) {t : Entry} (board : Half)
    (h : t.carried ≠ none ∨ (t.kind ≠ .outputWrite ∧ t.kind ≠ .setup .forceSafe)) :
    e.attempt t board (.refused 1) =
      { expander := e, wire := [.start, .send (addressByte t.bay false), .stop],
        levels := startLevels ++ byteLevels (addressByte t.bay false) false ++ stopLevels true, received := [],
        result := .nack } := by
  obtain ⟨rest, hshape⟩ := Entry.shape_begins h
  rw [Expander.attempt, hshape, Expander.run_cons_spared (Disturbance.refused_spares (by decide)) rfl,
    Expander.run_refused]
  rfl

/-! ## Reads of INPUT (R74, R95, R100) -/

theorem Entry.shape_input {t : Entry} (h : t.kind = .inputRead ∨ t.kind = .setup .seedingRead) :
    t.shape = readShape t.bay 0x00 5 := by
  rcases h with h | h <;> rw [Entry.shape, h]

/-- INPUT low takes the snapshot, and no byte after it does (R95). -/
theorem Expander.snapshot_inputRead (e : Expander) (board : Half) {j : Nat} (hj : j ≤ 6) :
    ((e.atIndex 0x00).afterSending board j).snapshot = if j = 0 then e.snapshot else some (e.pins board) := by
  cases j with
  | zero => rfl
  | succ j =>
    refine Expander.afterSending_snapshot (e := ((e.atIndex 0x00).send board).2) fun i hi => ?_
    have hne : ∀ i < 5, (0x01 : BitVec 4) + BitVec.ofNat 4 i ≠ 0 := by decide
    exact hne i (by omega)

/-- The alert is released when the snapshot is what the pins show (R95). -/
theorem Expander.alert_of_snapshot {e : Expander} {board : Half} (h : e.snapshot = some (e.pins board)) :
    e.alert board = false := by
  simp [Expander.alert, h]

/-- A read whose header and first data bytes nothing disturbs. -/
theorem Expander.attempt_read_spared (e : Expander) {t : Entry} (board : Half) {i : Byte} {j n : Nat}
    (ht : t.shape = readShape t.bay i (j + n)) (hi : i.toNat < 16) {d : Disturbance} (hd : ∀ k < 5 + j, d.Spares k) :
    e.attempt t board d =
      (Expander.run t.bay board d (5 + j) .sending (List.replicate n (.recv true) ++ [.recv false, .stop])
        ((e.atIndex i).afterSending board j)).precededBy
        (readHeader t.bay i ++ readings ((e.atIndex i).sentBytes board j)) := by
  have hlen : 0 + (readHeader t.bay i ++ readings ((e.atIndex i).sentBytes board j)).length = 5 + j := by
    rw [Nat.zero_add, List.length_append, readings_length, Expander.sentBytes_length]; rfl
  have hshape : t.shape = (readHeader t.bay i ++ readings ((e.atIndex i).sentBytes board j)).map Prod.fst ++
      (List.replicate n (.recv true) ++ [.recv false, .stop]) := by
    rw [ht, readShape_eq, List.map_append, readings_items, Expander.sentBytes_length, List.replicate_add]
    simp only [List.append_assoc]
  rw [Expander.attempt, hshape,
    ((Expander.course_readHeader hi).append (Expander.course_readings t.bay board _ j)).run_eq
      fun k _ hk => hd k (by omega), hlen]

/-- A clock held in data byte `j` of a read of INPUT: the snapshot is taken once INPUT low has been sent (R95,
R100). -/
theorem Expander.attempt_input_clockHeld (e : Expander) {t : Entry} (board : Half)
    (ht : t.shape = readShape t.bay 0x00 5) {j : Nat} (bit : Nat) (hj : j < 6) :
    (e.attempt t board (.clockHeld (5 + j) bit)).result = .timeout ∧
      (e.attempt t board (.clockHeld (5 + j) bit)).expander.snapshot =
        if j = 0 then e.snapshot else some (e.pins board) := by
  have hsplit : t.shape = readShape t.bay 0x00 (j + (5 - j)) := by rw [ht, Nat.add_sub_of_le (by omega)]
  rw [e.attempt_read_spared board hsplit (by decide) fun k hk => Disturbance.clockHeld_spares (by omega)]
  obtain ⟨hexpander, -, hresult⟩ := Expander.run_clockHeld (b := t.bay) (board := board) (k := 5 + j) (bit := bit)
    (ph := .sending) (items := List.replicate (5 - j) (.recv true) ++ [.recv false, .stop])
    (e := (e.atIndex 0x00).afterSending board j) (by simp)
  refine ⟨hresult, ?_⟩
  rw [WireRun.precededBy_expander, hexpander, e.snapshot_inputRead board (by omega)]

/-- The data line held in bits of INPUT low, and at the stop: those bits read 0, and the attempt ends by timeout
(R100). -/
theorem Expander.attempt_input_dataHeld (e : Expander) {t : Entry} (board : Half)
    (ht : t.shape = readShape t.bay 0x00 5) (low : BitVec 9) :
    (e.attempt t board (.dataHeld [(5, low), (11, 1)])).result = .timeout ∧
      (e.attempt t board (.dataHeld [(5, low), (11, 1)])).received.head? =
        some (heldByte (lowByte (e.pins board)) low) := by
  set d : Disturbance := .dataHeld [(5, low), (11, 1)] with hd
  have hspares (k : Nat) (h5 : k ≠ 5) (h11 : k ≠ 11) : d.Spares k :=
    ⟨by simp [hd, Disturbance.lowBits, h5.symm, h11.symm], rfl, nofun⟩
  let e₁ := ((e.atIndex 0x00).send board).2
  have hcourse : Expander.Course t.bay board e₁ .sending
      (readings (e₁.sentBytes board 4) ++ [(.recv false, ((e₁.afterSending board 4).send board).1)])
      ((e₁.afterSending board 4).send board).2 .idle :=
    (Expander.course_readings t.bay board e₁ 4).append (.cons (bs := [_]) rfl (.nil _ _))
  have hrest := hcourse.run_eq (d := d) (k := 6) (fun i hlo hhi => hspares i (by omega) (Nat.ne_of_lt hhi)) [.stop]
  have hstop := Expander.run_condition_held (b := t.bay) (board := board) (d := d) (k := 11) (ph := .idle)
    (x := .stop) (rest := []) (e := ((e₁.afterSending board 4).send board).2) rfl rfl
    (show (1 : BitVec 9) ≠ 0 by decide)
  have hheld := Expander.run_cons_of_take (b := t.bay) (board := board) (d := d) (k := 5) (ph := .sending)
    (x := .recv true) (e := e.atIndex 0x00) (rest := List.replicate 4 (.recv true) ++ [.recv false, .stop])
    rfl nofun nofun rfl
  have hrun := e.attempt_read_spared (j := 0) (n := 5) board ht (by decide) (d := d)
    fun k hk => hspares k (by omega) (by omega)
  have hall := hrun.trans (congrArg (WireRun.precededBy · _) (hheld.trans
    (congrArg (WireRun.precededBy · _) (hrest.trans (congrArg (WireRun.precededBy · _) hstop)))))
  rw [hall]
  exact ⟨rfl, rfl⟩

/-- Settles O15: failures by the item they meet, reads by what every item keeps. -/
theorem expanderFailures : Obligations.ExpanderFailures := by
  refine ⟨fun e b c board j hj => ?_, Expander.attempt_read_keeps,
    fun e t board h => ?_, fun e t board h => ?_⟩
  · intro write new mixed refused held
    have hmixed : mixed ((e.atIndex 0x02).storeAll (new.bytes.take j)).regs := e.write_cut_regs new hj
    obtain ⟨hnack, hwire, hexpander⟩ := e.attempt_write_refused (t := write) board rfl hj
    refine ⟨hnack, hwire, hexpander ▸ hmixed, fun bit => ?_⟩
    obtain ⟨htimeout, hwire, hexpander⟩ := e.attempt_write_clockHeld (t := write) board rfl hj bit
    exact ⟨htimeout, hwire, hexpander ▸ hmixed⟩
  · rw [e.attempt_silent board h]
    exact ⟨rfl, rfl, rfl, rfl, rfl⟩
  · have hshape := Entry.shape_input h
    obtain ⟨hresult, hwire, hreceived, hexpander⟩ := e.attempt_read_quiet board hshape (by decide)
    have hsnapshot : (e.attempt t board .quiet).expander.snapshot = some (e.pins board) := by
      rw [hexpander, e.snapshot_inputRead board (Nat.le_refl 6), if_neg (by decide)]
    refine ⟨hresult, hreceived.trans (e.sentBytes_inputRead board), hsnapshot, 
      Expander.alert_of_snapshot ?_, hwire.trans hshape,
      fun j bit hj => e.attempt_input_clockHeld board hshape bit hj,
      fun low => e.attempt_input_dataHeld board hshape low⟩
    rw [hsnapshot, hexpander, Expander.afterSending_pins, Expander.atIndex_pins]

end Sys2Proof.Machine

/-! # The steps of a setup chain (R129, R132 to R135) -/

namespace Sys2Proof.Machine

/-! ## Updates of one engine -/

theorem State.modifyEngine_modifyEngine (s : State) (n : BusId) (f g : Engine → Engine) :
    (s.modifyEngine n f).modifyEngine n g = s.modifyEngine n fun e => g (f e) := by
  simp [State.modifyEngine]

/-! ## A completed transaction of the Discovery Unit (R116) -/

/-- The answer of an event that completes the transaction on the wire: what the unit that asked for it does with
its end, on a bus that has become idle (R116). -/
theorem State.completeTx_answers {s : State} {n : BusId} {e : Entry} {a : Nat} {k : TxKind} (hw : s.OnWire n e a)
    (hk : e.kind = k) (handed : State → Entry → State) :
    ∃ t, s.event (s.completeTx n k handed) = .next t ∧ t.AnswersAs (handed (s.busIdle n) e) := by
  subst hk
  rw [State.completeTx_onWire hw handed]
  exact State.event_answers hw.2 _

/-- As `completeTx_answers`, of an end that tells no record: the Router has nothing to answer (R165). -/
theorem State.completeTx_quiet {s : State} {n : BusId} {e : Entry} {a : Nat} {k : TxKind} (hw : s.OnWire n e a)
    (hk : e.kind = k) {handed : State → Entry → State} {t : State} (ht : handed (s.busIdle n) e = t)
    (he : t.events = s.events) : s.event (s.completeTx n k handed) = .next t := by
  subst hk ht
  rw [State.completeTx_onWire hw handed]
  exact State.event_quiet s _ hw.2 he

/-- The queue entry of a request of the Discovery Unit (R111). -/
def discoveryRequest (b : BayId) (kind : TxKind) (carried : Option Written) : Entry :=
  { kind := kind, bay := b, urgent := false, waiters := .none, carried := carried }

/-- A step of a setup chain has ended and the next one is requested: the bus is idle, and the request is at the back
of its queue (R111, R116). -/
def State.stepRequested (s : State) (b : BayId) (kind : TxKind) (carried : Option Written) : State :=
  s.modifyEngine (busOf b) fun g => { g with bus := .idle, queue := g.queue ++ [discoveryRequest b kind carried] }

theorem Engine.takes_of_idle {g : Engine} (hb : g.bus = .idle) (h : g.config.enable = true) : g.takes = true := by
  simp [Engine.takes, hb, h]

/-- An idle bus that is enabled queues the request (R111). -/
theorem State.busIdle_requestDiscovery {s : State} {b : BayId} (h : (s.engine (busOf b)).config.enable = true)
    (kind : TxKind) (carried : Option Written) :
    (s.busIdle (busOf b)).requestDiscovery b kind carried = s.stepRequested b kind carried := by
  have htakes : ((s.busIdle (busOf b)).engine (busOf b)).takes = true := by
    rw [State.busIdle_engine]
    exact Engine.takes_of_idle rfl h
  rw [State.requestDiscovery, if_pos htakes, State.busIdle, State.modifyEngine_modifyEngine]
  rfl

/-- As `busIdle_requestDiscovery`, of a step that changes the bay's record too. -/
theorem State.busIdle_changeRequest {s : State} {b : BayId} (h : (s.engine (busOf b)).config.enable = true)
    (f : Bay → Bay) (kind : TxKind) (carried : Option Written) :
    ((s.busIdle (busOf b)).modifyBay b f).requestDiscovery b kind carried =
      (s.modifyBay b f).stepRequested b kind carried :=
  State.busIdle_requestDiscovery (s := s.modifyBay b f) h kind carried

@[simp] theorem State.stepRequested_bay (s : State) (b : BayId) (kind : TxKind) (carried : Option Written)
    (c : BayId) : (s.stepRequested b kind carried).bay c = s.bay c := rfl

@[simp] theorem State.stepRequested_engine (s : State) (b : BayId) (kind : TxKind) (carried : Option Written) :
    (s.stepRequested b kind carried).engine (busOf b) =
      { s.engine (busOf b) with
        bus := .idle, queue := (s.engine (busOf b)).queue ++ [discoveryRequest b kind carried] } :=
  State.modifyEngine_engine_self s _ _

/-- A step that changes the bay's record and requests the next step leaves every other bay and bus alone. -/
theorem State.stepRequested_sameElsewhere (s : State) (b : BayId) (f : Bay → Bay) (kind : TxKind)
    (carried : Option Written) : s.SameElsewhere ((s.modifyBay b f).stepRequested b kind carried) b :=
  ⟨fun _ hc => State.modifyBay_bay_ne s b _ f hc, fun _ hm => State.modifyEngine_engine_ne _ _ _ _ hm⟩

/-! ## Probes and identification (R129, R132) -/

/-- The hunt of the bay's bus with one more bay found (R129). -/
def State.foundCounted (s : State) (b : BayId) : State :=
  s.modifyEngine (busOf b) fun g => { g with hunt := g.hunt.map fun h => { h with found := h.found + 1 } }

theorem State.busIdle_foundCounted (s : State) (b : BayId) :
    (s.busIdle (busOf b)).foundCounted b = (s.foundCounted b).busIdle (busOf b) := by
  simp only [State.busIdle, State.foundCounted, State.modifyEngine_modifyEngine]

/-- An acknowledged probe counts in its hunt, and the setup chain begins (R129). -/
theorem State.busIdle_probeFound {s : State} {b : BayId} (h : (s.engine (busOf b)).config.enable = true) :
    (s.busIdle (busOf b)).probeFound b =
      (s.modifyBay b fun x => { x with link := .setup }).modifyEngine (busOf b) fun g =>
        { g with bus := .idle, hunt := g.hunt.map fun h => { h with found := h.found + 1 },
                 queue := g.queue ++ [discoveryRequest b (.setup .identRead) none] } := by
  have hcounted : ((s.foundCounted b).engine (busOf b)).config.enable = true := by
    rw [State.foundCounted, State.modifyEngine_engine_self]
    exact h
  calc (s.busIdle (busOf b)).probeFound b
      = (((s.busIdle (busOf b)).foundCounted b).modifyBay b fun x => { x with link := .setup }).requestDiscovery b
          (.setup .identRead) none := rfl
    _ = ((s.foundCounted b).modifyBay b fun x => { x with link := .setup }).stepRequested b
          (.setup .identRead) none := by
        rw [State.busIdle_foundCounted]
        exact State.busIdle_changeRequest hcounted _ _ _
    _ = ((s.modifyBay b fun x => { x with link := .setup }).foundCounted b).stepRequested b
          (.setup .identRead) none := rfl
    _ = _ := by rw [State.foundCounted, State.stepRequested, State.modifyEngine_modifyEngine]

/-- A foreign IDENT: the bay leaves discovery and its hunt, with its LINK record and, of the last hunted bay, the end
of the hunt after it (R130, R132). -/
theorem State.identJudged_foreign (s : State) {b : BayId} {ident : Byte} (h : ident ≠ 0x6B) :
    let hunt := (s.engine (busOf b)).hunt.map fun h => h.without b
    (s.identJudged b ident).bay b = { s.bay b with link := .absent, chain := none } ∧
    (s.identJudged b ident).engine (busOf b) = { s.engine (busOf b) with hunt := huntLeft hunt } ∧
    (s.identJudged b ident).TellsAs ((s.enqueue (.bay b) (.link .absent .foreign)).tellHunt (busOf b) hunt) := by
  intro hunt
  obtain ⟨u, hu⟩ : ∃ u, u = ((s.modifyBay b fun x => { x with link := .absent, chain := none }).huntLeave b).enqueue
      (.bay b) (.link .absent .foreign) := ⟨_, rfl⟩
  have hjudged : s.identJudged b ident = u.endHunt (busOf b) := by rw [hu]; exact if_neg h
  have hengine : u.engine (busOf b) = { s.engine (busOf b) with hunt := hunt } := by
    rw [hu, State.enqueue_engine, State.huntLeave_engine]
    rfl
  have htells : u.TellsAs (s.enqueue (.bay b) (.link .absent .foreign)) := by
    rw [hu]
    exact ((State.huntLeave_tells _ b).trans (s.modifyBay_tells b _)).enqueue _ _
  have hended := u.endHunt_tells (busOf b)
  rw [hengine] at hended
  refine ⟨?_, ?_, ?_⟩
  · rw [hjudged, State.endHunt_bay_ne, hu, State.enqueue_bay, State.huntLeave_bay_ne, State.modifyBay_bay_self]
  · rw [hjudged, State.endHunt_engine, hengine]
  · rw [hjudged]
    exact hended.trans (htells.tellHunt _ _)

/-- Settles O47: a probe that is acknowledged, the IDENT that goes on, and the foreign one. -/
theorem probeAndIdent : Obligations.ProbeAndIdent := by
  refine ⟨fun n e a s hw hk hn henable => ?_,
    fun n e a ident s hw hk hn henable => ⟨fun hident => ?_, fun hident => ?_⟩⟩
  · subst hn
    exact State.completeTx_quiet hw hk (State.busIdle_probeFound henable) rfl
  · subst hn
    exact State.completeTx_quiet hw hk
      ((if_pos hident).trans (State.busIdle_requestDiscovery henable _ none)) rfl
  · subst hn
    obtain ⟨t, hexec, ha⟩ := State.completeTx_answers hw hk fun t e => t.identJudged e.bay ident
    obtain ⟨hbay, hengine, htells⟩ := (s.busIdle (busOf e.bay)).identJudged_foreign (b := e.bay) hident
    rw [State.busIdle_engine] at hengine htells
    refine ⟨t, hexec, by rw [ha.bay, hbay]; rfl, by rw [ha.engine, hengine],
      (ha.tells.trans (htells.trans (((s.busIdle_tells _).enqueue _ _).tellHunt _ _))).events,
      by rw [ha.engine, hengine], by rw [ha.engine, hengine], by rw [ha.engine, hengine],
      State.busIdle_sameElsewhere (ha.sameElsewhere ⟨fun c hc => ?_, fun m hm => ?_⟩), ?_⟩
    · exact State.identJudged_bay_ne _ _ _ _ hc
    · exact State.identJudged_engine_ne _ _ _ _ hm
    · rw [ha.shell, State.identJudged_shell, State.busIdle_shell]

end Sys2Proof.Machine

/-! # Adoption and force safe (R133 to R135) -/

namespace Sys2Proof.Machine

/-- A readback that is adopted: consistent, with its three power lines all on or all off (R133, R134). -/
def Regs.Adoptable (r : Regs) (d : Dirs) : Prop :=
  r.consistent d = true ∧ r.output.getLsbD 1 = r.output.getLsbD 0 ∧ r.output.getLsbD 2 = r.output.getLsbD 0

theorem adoptDecision_of_adoptable {r : Regs} {d : Dirs} (h : r.Adoptable d) :
    adoptDecision r d = some (if r.output.getLsbD 0 then .on else .off) := by
  obtain ⟨hconsistent, hclk, hrst⟩ := h
  unfold adoptDecision
  rw [hconsistent, hclk, hrst]
  cases r.output.getLsbD 0 <;> rfl

theorem adoptDecision_of_not_adoptable {r : Regs} {d : Dirs} (h : ¬ r.Adoptable d) : adoptDecision r d = none := by
  unfold adoptDecision
  rw [if_neg, if_neg]
  all_goals
    intro hlines
    simp only [Bool.and_eq_true, Bool.not_eq_true'] at hlines
    obtain ⟨⟨⟨hconsistent, hpwr⟩, hclk⟩, hrst⟩ := hlines
    exact h ⟨hconsistent, hclk.trans hpwr.symm, hrst.trans hpwr.symm⟩

/-- The bay record of an adoption (R134). -/
def Bay.adopted (x : Bay) (r : Regs) (d : Dirs) (dec : Decided) : Bay :=
  { x with target := r.decode, targetGen := x.targetGen + 1,
           confirmed := some { image := r.decode, dirs := d, gen := x.targetGen + 1 },
           chain := some { dirs := d, decided := dec } }

/-- What the force-safe write of a readback carries (R135). -/
def Bay.safeWritten (x : Bay) (r : Regs) (d : Dirs) : Written :=
  { image := safeImage r, dirs := d, gen := x.targetGen + 1 }

/-- The bay record of a force-safe decision (R135). -/
def Bay.madeSafe (x : Bay) (r : Regs) (d : Dirs) : Bay :=
  { x with target := safeImage r, targetGen := x.targetGen + 1, confirmed := none,
           chain := some { dirs := d, decided := forceSafeDecision r } }

section Readback

variable {s : State} {b : BayId} {r : Regs} (henable : (s.engine (busOf b)).config.enable = true)
include henable

theorem State.readbackJudged_adopts (h : r.Adoptable (s.bay b).config.auxDir) :
    (s.busIdle (busOf b)).readbackJudged b r =
      (s.modifyBay b fun x => x.adopted r (s.bay b).config.auxDir
        (if r.output.getLsbD 0 then .on else .off)).stepRequested b (.setup .seedingRead) none := by
  have hjudged : (s.busIdle (busOf b)).readbackJudged b r = (s.busIdle (busOf b)).adopt b r (s.bay b).config.auxDir
      (if r.output.getLsbD 0 then .on else .off) := by
    unfold State.readbackJudged
    rw [State.busIdle_bay]
    dsimp only
    rw [adoptDecision_of_adoptable h]
  rw [hjudged]
  exact State.busIdle_changeRequest henable _ _ _

theorem State.readbackJudged_forcesSafe (h : ¬ r.Adoptable (s.bay b).config.auxDir) :
    (s.busIdle (busOf b)).readbackJudged b r =
      (s.modifyBay b fun x => x.madeSafe r (s.bay b).config.auxDir).stepRequested b (.setup .forceSafe)
        (some ((s.bay b).safeWritten r (s.bay b).config.auxDir)) := by
  have hjudged : (s.busIdle (busOf b)).readbackJudged b r =
      (s.busIdle (busOf b)).forceSafe b r (s.bay b).config.auxDir := by
    unfold State.readbackJudged
    rw [State.busIdle_bay]
    dsimp only
    rw [adoptDecision_of_not_adoptable h]
  have hsafe : (s.busIdle (busOf b)).modifyBay b (fun x => { x with
      target := safeImage r, targetGen := (s.bay b).targetGen + 1, confirmed := none,
      chain := some { dirs := (s.bay b).config.auxDir, decided := forceSafeDecision r } }) =
      (s.busIdle (busOf b)).modifyBay b fun x => x.madeSafe r (s.bay b).config.auxDir := State.modifyBay_congr rfl
  rw [hjudged, State.forceSafe, State.busIdle_bay, hsafe]
  exact State.busIdle_changeRequest henable _ _ _

end Readback

/-- Settles O48: the two ends of a SETUP_READ, and the force-safe write. -/
theorem setupReadAndForceSafe : Obligations.SetupReadAndForceSafe := by
  refine ⟨fun n e a r s hw hk hn henable => ?_, fun n e a s hw hk hn henable => ?_⟩
  · subst hn
    intro x g d adoptable
    refine ⟨fun h => ?_, fun h => ?_⟩
    · refine ⟨_, State.completeTx_quiet hw hk (State.readbackJudged_adopts henable h) rfl, ?_, ?_, ?_, rfl,
        State.stepRequested_sameElsewhere _ _ _ _ _, rfl⟩
      · rw [State.stepRequested_bay, State.modifyBay_bay_self]
        rfl
      · rw [State.stepRequested_engine]
        rfl
      · rw [State.stepRequested_engine]
    · refine ⟨_, State.completeTx_quiet hw hk (State.readbackJudged_forcesSafe henable h) rfl, ?_, ?_, ?_, rfl,
        State.stepRequested_sameElsewhere _ _ _ _ _, rfl⟩
      · rw [State.stepRequested_bay, State.modifyBay_bay_self]
        rfl
      · rw [State.stepRequested_engine]
        rfl
      · rw [State.stepRequested_engine]
  · subst hn
    exact State.completeTx_quiet hw hk (State.busIdle_changeRequest henable _ _ none) rfl

end Sys2Proof.Machine

/-! # Hunts (R127, R128, R130, R131) -/

namespace Sys2Proof.Machine

/-! ## The bays that a hunt reaches (R128) -/

/-- A hunt reaches the bay: it is managed, and in ABSENT or LOST (R128). -/
def Bay.huntable (x : Bay) : Bool := x.config.managed && (x.link = .absent || x.link = .lost)

/-- The link state from which a hunt takes the bay (R127). -/
def Bay.huntedFrom (x : Bay) : Origin := if x.link = .lost then .lost else .absent

theorem Bay.huntable_iff (x : Bay) :
    x.huntable = true ↔ x.config.managed = true ∧ (x.link = .absent ∨ x.link = .lost) := by
  simp [Bay.huntable]

theorem State.reachable_of_bay {s t : State} {n : BusId} (h : ∀ b, busOf b = n → t.bay b = s.bay b) :
    t.reachable n = s.reachable n :=
  List.filter_congr fun b hb => by rw [h b (busOf_of_mem_baysOf n b hb)]

/-- A bay that the hunt reaches is hunted, in PROBING, and its probe is queued (R127, R128). -/
theorem State.huntReach_reaches {s : State} {b : BayId} (h : (s.bay b).huntable = true)
    (ht : (s.engine (busOf b)).takes = true) :
    s.huntReach b = (s.modifyBay b fun y => { y with link := .probing }).modifyEngine (busOf b) fun e =>
      { e with queue := e.queue ++ [probeEntry b],
               hunt := e.hunt.map fun h => { h with hunted := h.hunted ++ [(b, (s.bay b).huntedFrom)] } } := by
  obtain ⟨u, hu⟩ : ∃ u, u = (s.modifyEngine (busOf b) fun e => { e with
      hunt := e.hunt.map fun h => { h with hunted := h.hunted ++ [(b, (s.bay b).huntedFrom)] } }).modifyBay b
      fun y => { y with link := .probing } := ⟨_, rfl⟩
  have htakes : (u.engine (busOf b)).takes = true := by
    rw [hu, State.modifyBay_engine, State.modifyEngine_engine_self]
    exact ht
  have hreach : s.huntReach b = u.requestDiscovery b .probe none := by rw [hu]; exact if_pos h
  rw [hreach, State.requestDiscovery, if_pos htakes, hu]
  simp [State.modifyEngine, State.modifyBay, probeEntry]

theorem State.huntReach_passes {s : State} {b : BayId} (h : (s.bay b).huntable = false) : s.huntReach b = s :=
  if_neg (Bool.eq_false_iff.mp h)

/-! ## The turns of the bays of a bus (R128) -/

/-- From `s` to `t` the hunt of bus `n` has reached, of the bays `l`, those it can reach (R127, R128). -/
structure State.Reaches (s : State) (n : BusId) (l : List BayId) (t : State) : Prop where
  bay : ∀ c, t.bay c = if c ∈ l ∧ (s.bay c).huntable = true then { s.bay c with link := .probing } else s.bay c
  engine : t.engine n = { s.engine n with
    queue := (s.engine n).queue ++ (l.filter fun b => (s.bay b).huntable).map probeEntry,
    hunt := (s.engine n).hunt.map fun h => { h with
      hunted := h.hunted ++ (l.filter fun b => (s.bay b).huntable).map fun b => (b, (s.bay b).huntedFrom) } }
  other : ∀ m, m ≠ n → t.engine m = s.engine m
  tells : t.TellsAs s
  shell : t.shell = s.shell

theorem State.Reaches.nil (s : State) (n : BusId) : s.Reaches n [] s where
  bay c := by simp
  engine := by
    cases h : (s.engine n).hunt with
    | none => simp [← h]
    | some g => simp [← h]
  other _ _ := rfl
  tells := .refl s
  shell := rfl

/-- The turn of one bay. -/
theorem State.huntReach_reached {s : State} {b : BayId} (ht : (s.engine (busOf b)).takes = true) :
    s.Reaches (busOf b) [b] (s.huntReach b) := by
  cases h : (s.bay b).huntable with
  | true =>
    rw [State.huntReach_reaches h ht]
    refine ⟨fun c => ?_, ?_, fun m hm => State.modifyEngine_engine_ne _ _ _ _ hm, ⟨rfl, rfl, rfl⟩, rfl⟩
    · rw [State.modifyEngine_bay, State.modifyBay_bay]
      by_cases hc : c = b
      · simp [hc, h]
      · simp [hc]
    · rw [State.modifyEngine_engine_self]
      simp [h]
  | false =>
    have hnil := State.Reaches.nil s (busOf b)
    rw [State.huntReach_passes h]
    refine ⟨fun c => ?_, ?_, hnil.other, hnil.tells, rfl⟩
    · by_cases hc : c = b
      · simp [hc, h]
      · simp [hc]
    · rw [List.filter_cons_of_neg (by simp [h])]
      exact hnil.engine

/-- The turns of two groups of bays, one after the other. -/
theorem State.Reaches.append {s t u : State} {n : BusId} {l l' : List BayId} (h : s.Reaches n l t)
    (h' : t.Reaches n l' u) (hd : ∀ c ∈ l', c ∉ l) : s.Reaches n (l ++ l') u := by
  have hbay : ∀ c ∈ l', t.bay c = s.bay c := fun c hc => by rw [h.bay, if_neg fun hl => hd c hc hl.1]
  have hfilter : (l'.filter fun b => (t.bay b).huntable) = l'.filter fun b => (s.bay b).huntable :=
    List.filter_congr fun b hb => by rw [hbay b hb]
  have hfrom : (l'.filter fun b => (s.bay b).huntable).map (fun b => (b, (t.bay b).huntedFrom)) =
      (l'.filter fun b => (s.bay b).huntable).map fun b => (b, (s.bay b).huntedFrom) :=
    List.map_congr_left fun b hb => by rw [hbay b (List.mem_of_mem_filter hb)]
  refine ⟨fun c => ?_, ?_, fun m hm => (h'.other m hm).trans (h.other m hm), h'.tells.trans h.tells,
    h'.shell.trans h.shell⟩
  · rw [h'.bay]
    by_cases hc : c ∈ l'
    · simp [hbay c hc, hc]
    · rw [if_neg fun hl => hc hl.1, h.bay]
      simp [hc]
  · rw [h'.engine, h.engine, hfilter, hfrom]
    simp [List.filter_append, Function.comp_def]

/-- The turns of distinct bays of a bus that takes requests. -/
theorem State.foldl_huntReach_reaches {n : BusId} :
    ∀ (l : List BayId) (s : State), l.Nodup → (∀ b ∈ l, busOf b = n) → (s.engine n).takes = true →
      s.Reaches n l (l.foldl State.huntReach s)
  | [], s, _, _, _ => .nil s n
  | b :: l, s, hnodup, hl, ht => by
    have hb : busOf b = n := hl b (List.mem_cons_self ..)
    subst hb
    have hfirst := State.huntReach_reached ht
    obtain ⟨hnew, hrest⟩ := List.nodup_cons.mp hnodup
    refine hfirst.append (State.foldl_huntReach_reaches l _ hrest (fun c hc => hl c (List.mem_cons_of_mem b hc)) ?_)
      fun c hc hcb => hnew (List.mem_singleton.mp hcb ▸ hc)
    rw [hfirst.engine]
    exact ht

/-! ## A hunt of a bus (R128, R130) -/

/-- The hunt of bus `n` that reaches the bays it can (R127, R128). -/
def State.newHunt (s : State) (n : BusId) : Hunt :=
  { hunted := (s.reachable n).map fun b => (b, (s.bay b).huntedFrom), found := 0, bound := 0 }

/-- The record of a hunt of bus `n` that reaches no bay of `r` (R130). -/
def State.tellEmptyHunt (r u : State) (n : BusId) : State :=
  if (r.reachable n).isEmpty then u.enqueue .part (.huntDone n 0 0) else u

theorem State.TellsAs.tellEmptyHunt {s t : State} (h : s.TellsAs t) (r : State) (n : BusId) :
    (r.tellEmptyHunt s n).TellsAs (r.tellEmptyHunt t n) := by
  unfold State.tellEmptyHunt
  split
  · exact h.enqueue _ _
  · exact h

/-- The records of empty hunts, read off states with the same bays to reach and told to states that tell alike. -/
theorem State.foldl_tellEmptyHunt {r r' : State} :
    ∀ (l : List BusId) {s t : State}, (∀ n ∈ l, r.reachable n = r'.reachable n) → s.TellsAs t →
      (l.foldl r.tellEmptyHunt s).TellsAs (l.foldl r'.tellEmptyHunt t)
  | [], _, _, _, h => h
  | n :: l, s, t, hr, h => by
    have hn : r.tellEmptyHunt s n = r'.tellEmptyHunt s n := by
      rw [State.tellEmptyHunt, State.tellEmptyHunt, hr n (List.mem_cons_self ..)]
    rw [List.foldl_cons, List.foldl_cons, hn]
    exact State.foldl_tellEmptyHunt l (fun m hm => hr m (List.mem_cons_of_mem n hm)) (h.tellEmptyHunt r' n)

/-- From `s` to `t` a hunt of each bus of `l` has started: what it does to bays and buses (R128, R130). -/
structure State.Hunts (s : State) (l : List BusId) (t : State) : Prop where
  bay : ∀ c, t.bay c =
    if busOf c ∈ l ∧ (s.bay c).huntable = true then { s.bay c with link := .probing } else s.bay c
  engine : ∀ n ∈ l, t.engine n = { s.engine n with
    queue := (s.engine n).queue ++ (s.reachable n).map probeEntry, hunt := huntLeft (some (s.newHunt n)) }
  other : ∀ m, m ∉ l → t.engine m = s.engine m
  tells : t.TellsAs (l.foldl s.tellEmptyHunt s)
  shell : t.shell = s.shell

theorem State.startHunt_hunts {s : State} {n : BusId} (ht : (s.engine n).takes = true) :
    s.Hunts [n] (s.startHunt n) := by
  obtain ⟨u, hu⟩ : ∃ u, u = s.modifyEngine n fun e =>
      { e with hunt := some { hunted := [], found := 0, bound := 0 } } := ⟨_, rfl⟩
  have huengine : u.engine n = { s.engine n with hunt := some { hunted := [], found := 0, bound := 0 } } := by
    rw [hu, State.modifyEngine_engine_self]
  have hubay : ∀ c, u.bay c = s.bay c := fun c => by rw [hu]; rfl
  have hreaches := State.foldl_huntReach_reaches (baysOf n) u (by fin_cases n <;> decide)
    (busOf_of_mem_baysOf n) (by rw [huengine]; exact ht)
  have hengine : ((baysOf n).foldl State.huntReach u).engine n = { s.engine n with
      queue := (s.engine n).queue ++ (s.reachable n).map probeEntry, hunt := some (s.newHunt n) } := by
    rw [hreaches.engine, huengine]
    simp only [hubay]
    rfl
  have hstart : s.startHunt n = ((baysOf n).foldl State.huntReach u).endHunt n := by rw [hu]; rfl
  have htells := State.endHunt_tells ((baysOf n).foldl State.huntReach u) n
  rw [hengine] at htells
  rw [hstart]
  refine ⟨fun c => ?_, fun m hm => ?_, fun m hm => ?_, ?_, ?_⟩
  · have hmem : c ∈ baysOf n ↔ busOf c ∈ [n] := by
      rw [List.mem_singleton]
      exact ⟨busOf_of_mem_baysOf n c, fun h => h ▸ mem_baysOf_busOf c⟩
    rw [State.endHunt_bay_ne, hreaches.bay, hubay]
    simp only [hmem]
  · obtain rfl := List.mem_singleton.mp hm
    rw [State.endHunt_engine, hengine]
  · have hne : m ≠ n := fun h => hm (h ▸ List.mem_singleton_self n)
    rw [State.endHunt_engine_ne _ _ _ hne, hreaches.other m hne, hu, State.modifyEngine_engine_ne _ _ _ _ hne]
  · have hrecord : ∀ v : State, v.tellHunt n (some (s.newHunt n)) = s.tellEmptyHunt v n := fun v => by
      rw [State.tellHunt_some, State.newHunt, State.tellEmptyHunt, List.isEmpty_map]
    rw [hrecord] at htells
    refine htells.trans ((hreaches.tells.trans ?_).tellEmptyHunt s n)
    rw [hu]
    exact ⟨rfl, rfl, rfl⟩
  · rw [State.endHunt_shell, hreaches.shell, hu]
    rfl

/-- The hunts of different buses, one after the other. -/
theorem State.Hunts.cons {s t u : State} {n : BusId} {l : List BusId} (h : s.Hunts [n] t) (h' : t.Hunts l u)
    (hn : n ∉ l) : s.Hunts (n :: l) u := by
  have hbay : ∀ c, busOf c ∈ l → t.bay c = s.bay c := fun c hc => by
    have hne : ¬ busOf c ∈ [n] := fun hb => hn (List.mem_singleton.mp hb ▸ hc)
    rw [h.bay, if_neg fun hb => hne hb.1]
  have hengine : ∀ m ∈ l, t.engine m = s.engine m := fun m hm =>
    h.other m fun hmn => hn (List.mem_singleton.mp hmn ▸ hm)
  have hreach : ∀ m ∈ l, t.reachable m = s.reachable m := fun m hm =>
    State.reachable_of_bay fun b hb => hbay b (hb ▸ hm)
  have hhunt : ∀ m ∈ l, t.newHunt m = s.newHunt m := fun m hm => by
    unfold State.newHunt
    rw [hreach m hm, List.map_congr_left fun b hb => ?_]
    rw [hbay b (busOf_of_mem_baysOf m b (List.mem_of_mem_filter hb) ▸ hm)]
  refine ⟨fun c => ?_, fun m hm => ?_, fun m hm => ?_, ?_, h'.shell.trans h.shell⟩
  · rw [h'.bay]
    by_cases hc : busOf c ∈ l
    · simp [hbay c hc, hc]
    · rw [if_neg fun hb => hc hb.1, h.bay]
      simp [hc]
  · by_cases hml : m ∈ l
    · rw [h'.engine m hml, hengine m hml, hreach m hml, hhunt m hml]
    · obtain rfl : m = n := (List.mem_cons.mp hm).resolve_right hml
      rw [h'.other m hml, h.engine m (List.mem_singleton_self m)]
  · have hmn : m ∉ [n] := fun h => hm (List.mem_cons.mpr (.inl (List.mem_singleton.mp h)))
    rw [h'.other m fun h => hm (List.mem_cons_of_mem n h), h.other m hmn]
  · exact h'.tells.trans (State.foldl_tellEmptyHunt l hreach h.tells)

/-- A hunt of each of different buses that take requests (R131). -/
theorem State.foldl_startHunt_hunts :
    ∀ (l : List BusId) (s : State), l.Nodup → (∀ n ∈ l, (s.engine n).takes = true) →
      s.Hunts l (l.foldl State.startHunt s)
  | [], s, _, _ => ⟨fun c => by simp, nofun, fun _ _ => rfl, .refl s, rfl⟩
  | n :: l, s, hnodup, ht => by
    obtain ⟨hn, hrest⟩ := List.nodup_cons.mp hnodup
    have hfirst := State.startHunt_hunts (ht n (List.mem_cons_self ..))
    refine hfirst.cons (State.foldl_startHunt_hunts l _ hrest fun m hm => ?_) hn
    rw [hfirst.other m fun h => hn (List.mem_singleton.mp h ▸ hm)]
    exact ht m (List.mem_cons_of_mem n hm)

/-! ## HUNT (R131) -/

theorem maskBuses_nodup (m : BusMask) : (maskBuses m).Nodup := by
  obtain ⟨b0, b1⟩ := m
  cases b0 <;> cases b1 <;> decide

theorem maskBuses_isEmpty (m : BusMask) : (maskBuses m).isEmpty = (!m.bus0 && !m.bus1) := by
  obtain ⟨b0, b1⟩ := m
  cases b0 <;> cases b1 <;> rfl

theorem maskBuses_isEmpty_of_mem {m : BusMask} {n : BusId} (h : n ∈ maskBuses m) : (maskBuses m).isEmpty = false :=
  List.isEmpty_eq_false_iff.mpr (List.ne_nil_of_mem h)

section HuntResult

variable {s : State} {m : BusMask}

theorem State.huntResult_badState (h : ∃ n ∈ maskBuses m, (s.engine n).takes = false) :
    s.huntResult m = .badState := by
  obtain ⟨n, hn, htakes⟩ := h
  have hall : ((maskBuses m).all fun n => (s.engine n).takes) = false :=
    List.all_eq_false.mpr ⟨n, hn, Bool.eq_false_iff.mp htakes⟩
  simp [State.huntResult, maskBuses_isEmpty_of_mem hn, hall]

theorem State.huntResult_busy (ht : ∀ n ∈ maskBuses m, (s.engine n).takes = true)
    (h : ∃ n ∈ maskBuses m, (s.engine n).hunt ≠ none) : s.huntResult m = .busy := by
  obtain ⟨n, hn, hhunt⟩ := h
  have hall : ((maskBuses m).all fun n => (s.engine n).takes) = true := List.all_eq_true.mpr ht
  have hany : ((maskBuses m).any fun n => (s.engine n).hunt.isSome) = true :=
    List.any_eq_true.mpr ⟨n, hn, Option.isSome_iff_ne_none.mpr hhunt⟩
  simp [State.huntResult, maskBuses_isEmpty_of_mem hn, hall, hany]

theorem State.huntResult_done (hm : m.bus0 = true ∨ m.bus1 = true)
    (h : ∀ n ∈ maskBuses m, (s.engine n).takes = true ∧ (s.engine n).hunt = none) : s.huntResult m = .done := by
  have hne : (maskBuses m).isEmpty = false := by
    rw [maskBuses_isEmpty]
    rcases hm with hm | hm <;> simp [hm]
  have hall : ((maskBuses m).all fun n => (s.engine n).takes) = true :=
    List.all_eq_true.mpr fun n hn => (h n hn).1
  have hany : ((maskBuses m).any fun n => (s.engine n).hunt.isSome) = false :=
    List.any_eq_false.mpr fun n hn => by simp [(h n hn).2]
  simp [State.huntResult, hne, hall, hany]

end HuntResult

theorem exec_hunt (m : BusMask) (tag : Byte) (s : State) :
    exec (.hunt m tag) s = s.wordEvent Reg.globalCommand.addr fun t => t.takeHunt m tag := rfl

/-- A HUNT that fails a check only answers (R131). -/
theorem exec_hunt_refused {m : BusMask} {tag : Byte} {s : State} {r : CommandResult}
    (ht : s.takesWord Reg.globalCommand.addr = true) (hr : s.huntResult m = r) (hne : r ≠ .done) :
    exec (.hunt m tag) s = .next ((s.afterWord Reg.globalCommand.addr).answerGlobal 1 r tag) := by
  subst hr
  rw [exec_hunt]
  exact State.wordEvent_answers ht (if_neg hne) rfl

/-- A HUNT that passes its checks (R128, R131). -/
theorem exec_hunt_done {m : BusMask} {s : State} (tag : Byte) (ht : s.takesWord Reg.globalCommand.addr = true)
    (hr : s.huntResult m = .done) :
    ∃ t, exec (.hunt m tag) s = .next t ∧ t.AnswersAs
      ((maskBuses m).foldl State.startHunt ((s.afterWord Reg.globalCommand.addr).answerGlobal 1 .done tag)) := by
  have htake : (s.afterWord Reg.globalCommand.addr).takeHunt m tag = (maskBuses m).foldl State.startHunt
      ((s.afterWord Reg.globalCommand.addr).answerGlobal 1 .done tag) := by
    have hr' : (s.afterWord Reg.globalCommand.addr).huntResult m = .done := hr
    unfold State.takeHunt
    rw [hr']
    rfl
  rw [exec_hunt, State.wordEvent_taken s _ _ ht, htake]
  exact ⟨_, rfl, s.noticeAppends_answers _⟩

/-- Settles O27: one check of R131 after the other, and the hunts of the named buses. -/
theorem huntCommand : Obligations.HuntCommand := by
  refine fun m tag s ht => ⟨fun h0 h1 => ?_, fun h => ?_, fun htakes h => ?_, fun hm h => ?_⟩
  · refine exec_hunt_refused ht (if_pos ?_) nofun
    rw [maskBuses_isEmpty, h0, h1]
    rfl
  · exact exec_hunt_refused ht (State.huntResult_badState h) nofun
  · exact exec_hunt_refused ht (State.huntResult_busy htakes h) nofun
  · obtain ⟨t, hexec, ha⟩ := exec_hunt_done tag ht (State.huntResult_done hm h)
    obtain ⟨u, hu⟩ : ∃ u, u = (s.afterWord Reg.globalCommand.addr).answerGlobal 1 .done tag := ⟨_, rfl⟩
    rw [← hu] at ha
    have hubay : ∀ c, u.bay c = s.bay c := fun c => by rw [hu]; rfl
    have huengine : ∀ n, u.engine n = s.engine n := fun n => by rw [hu]; rfl
    have hureach : ∀ n, u.reachable n = s.reachable n := fun n => State.reachable_of_bay fun c _ => hubay c
    have hhunts := State.foldl_startHunt_hunts (maskBuses m) u (maskBuses_nodup m) fun n hn => by
      rw [huengine]
      exact (h n hn).1
    refine ⟨t, hexec, ?_, fun b => ?_, fun n hn => ?_, ?_, fun n hn => ⟨?_, ?_⟩⟩
    · have hshell := ha.shell.trans hhunts.shell
      rw [hu] at hshell
      exact congrArg Shell.globalStatus hshell
    · rw [ha.bay, hhunts.bay, hubay]
      simp only [Bay.huntable_iff]
    · rw [ha.engine, hhunts.other n hn, huengine]
    · have hutells : u.TellsAs s := by rw [hu]; exact ⟨rfl, rfl, rfl⟩
      exact (ha.tells.trans (hhunts.tells.trans
        (State.foldl_tellEmptyHunt _ (fun n _ => hureach n) hutells))).events
    · rw [ha.engine, hhunts.engine n hn, huengine, hureach]
    · rw [ha.engine, hhunts.engine n hn, State.newHunt, hureach, huntLeft_some, List.isEmpty_map]
      simp only [hubay]
      rfl

end Sys2Proof.Machine

/-! # What the work on a BOUND bay leaves alone

The Sequencer's work loses no request of a bus, and moves nothing that the reads and the binding of a bay have
found. -/

namespace Sys2Proof.Machine

/-! ## Requests that are not lost -/

/-- Every request of `q` is still among `q'`, of the same kind and bay, and still answers the sweep if it did. -/
def RequestsKept (q q' : List Entry) : Prop :=
  ∀ e ∈ q, ∃ d ∈ q', d.kind = e.kind ∧ d.bay = e.bay ∧ (e.waiters.sweep = true → d.waiters.sweep = true)

theorem RequestsKept.refl (q : List Entry) : RequestsKept q q := fun e he => ⟨e, he, rfl, rfl, id⟩

theorem RequestsKept.trans {q q' q'' : List Entry} (h : RequestsKept q q') (h' : RequestsKept q' q'') :
    RequestsKept q q'' := fun e he => by
  obtain ⟨d, hd, hk, hb, hs⟩ := h e he
  obtain ⟨c, hc, hk', hb', hs'⟩ := h' d hd
  exact ⟨c, hc, hk'.trans hk, hb'.trans hb, fun hsweep => hs' (hs hsweep)⟩

theorem RequestsKept.append (q r : List Entry) : RequestsKept q (q ++ r) :=
  fun e he => ⟨e, List.mem_append_left r he, rfl, rfl, id⟩

theorem RequestsKept.map (q : List Entry) (f : Entry → Entry)
    (hf : ∀ e, (f e).kind = e.kind ∧ (f e).bay = e.bay ∧ (e.waiters.sweep = true → (f e).waiters.sweep = true)) :
    RequestsKept q (q.map f) := fun e he => ⟨f e, List.mem_map_of_mem he, hf e⟩

theorem queueRead_kept (q : List Entry) (b : BayId) (w : Waiters) : RequestsKept q (queueRead q b w) := by
  unfold queueRead
  split
  · refine .map q _ fun e => ?_
    split
    · exact ⟨rfl, rfl, fun hs => by simp [Waiters.join, hs]⟩
    · exact ⟨rfl, rfl, id⟩
  · exact .append q _

theorem queueWrite_kept (q : List Entry) (b : BayId) (u : Bool) : RequestsKept q (queueWrite q b u) := by
  unfold queueWrite
  split
  · refine .map q _ fun e => ?_
    split <;> exact ⟨rfl, rfl, id⟩
  · exact .append q _

theorem RequestsKept.hasSweepRead {q q' : List Entry} (h : RequestsKept q q') {b : BayId} (hr : HasSweepRead q b) :
    HasSweepRead q' b := by
  obtain ⟨e, he, hk, hb, hs⟩ := hr
  obtain ⟨d, hd, hk', hb', hs'⟩ := h e he
  exact ⟨d, hd, hk'.trans hk, hb'.trans hb, hs' hs⟩

theorem RequestsKept.hasWrite {q q' : List Entry} (h : RequestsKept q q') {b : BayId} (hw : HasWrite q b) :
    HasWrite q' b := by
  obtain ⟨e, he, hk, hb⟩ := hw
  obtain ⟨d, hd, hk', hb', -⟩ := h e he
  exact ⟨d, hd, hk'.trans hk, hb'.trans hb⟩

/-! ## What has been found of a bay -/

/-- What the reads and the binding of a bay have found: nothing of it is the Sequencer's (R9, R10, R15). -/
def Bay.findings (x : Bay) :
    LinkState × Option Sample × Live × Accepted × Dirs × Option Candidate × Byte × Option Chain :=
  (x.link, x.sampled, x.live, x.accepted, x.auxDirs, x.candidate, x.failures, x.chain)

/-- From `s` to `t` the findings of every bay stay, and no request of a bus is lost. -/
structure State.BoundWork (s t : State) : Prop where
  findings : ∀ c, (t.bay c).findings = (s.bay c).findings
  requests : ∀ n, RequestsKept (s.engine n).queue (t.engine n).queue

theorem State.BoundWork.refl (s : State) : s.BoundWork s := ⟨fun _ => rfl, fun _ => .refl _⟩

theorem State.BoundWork.trans {s t u : State} (h : s.BoundWork t) (h' : t.BoundWork u) : s.BoundWork u :=
  ⟨fun c => (h'.findings c).trans (h.findings c), fun n => (h.requests n).trans (h'.requests n)⟩

theorem State.BoundWork.ite {s t u : State} {c : Prop} [Decidable c] (h : s.BoundWork t) (h' : s.BoundWork u) :
    s.BoundWork (if c then t else u) := by
  split
  · exact h
  · exact h'

theorem State.BoundWork.link {s t : State} (h : s.BoundWork t) (c : BayId) : (t.bay c).link = (s.bay c).link :=
  congrArg Prod.fst (h.findings c)

/-! ## The shared operations -/

theorem State.enqueue_boundWork (s : State) (src : Source) (d : Detail) : s.BoundWork (s.enqueue src d) :=
  ⟨fun _ => rfl, fun _ => .refl _⟩

theorem State.modifyBay_boundWork (s : State) (b : BayId) (f : Bay → Bay)
    (hf : ∀ x, (f x).findings = x.findings := by exact fun _ => rfl) : s.BoundWork (s.modifyBay b f) where
  findings c := by
    rw [State.modifyBay_bay]
    split
    · next h => rw [hf, h]
    · rfl
  requests _ := .refl _

theorem State.modifyEngine_boundWork (s : State) (n : BusId) (f : Engine → Engine)
    (hf : ∀ e, RequestsKept e.queue (f e).queue := by exact fun _ => .refl _) : s.BoundWork (s.modifyEngine n f) where
  findings _ := rfl
  requests m := by
    rw [State.modifyEngine_engine]
    split
    · next h => rw [h]; exact hf _
    · exact .refl _

theorem State.requestRead_boundWork (s : State) (b : BayId) (w : Waiters) : s.BoundWork (s.requestRead b w) :=
  .ite (s.modifyEngine_boundWork _ _ fun _ => queueRead_kept _ b w) (.refl s)

theorem State.requestWrite_boundWork (s : State) (b : BayId) (u : Bool) : s.BoundWork (s.requestWrite b u) :=
  .ite (s.modifyEngine_boundWork _ _ fun _ => queueWrite_kept _ b u) (.refl s)

theorem State.updateTarget_boundWork (s : State) (b : BayId) (f : Image → Image) (u : Bool) :
    s.BoundWork (s.updateTarget b f u) :=
  .ite (.refl s) ((s.modifyBay_boundWork b _).trans (State.requestWrite_boundWork _ b u))

theorem State.completeCommand_boundWork (s : State) (b : BayId) (r : CommandResult) :
    s.BoundWork (s.completeCommand b r) where
  findings c := by
    by_cases hc : c = b
    · obtain ⟨sl, hsl⟩ := s.completeCommand_slot b r
      rw [hc, hsl]
      rfl
    · rw [State.completeCommand_bay_ne _ _ _ _ hc]
  requests n := by rw [State.completeCommand_engine]; exact .refl _

theorem State.startTimer_boundWork (s : State) (b : BayId) (p : SeqPurpose) (n : Nat) :
    s.BoundWork (s.startTimer b p n) :=
  s.modifyBay_boundWork b _

/-! ## Power-up and cooldown (R24 to R35) -/

theorem State.rampWaitEnd_boundWork (s : State) (b : BayId) : s.BoundWork (s.rampWaitEnd b) := by
  unfold State.rampWaitEnd
  dsimp only
  split
  · exact s.startTimer_boundWork b _ _
  · exact (s.startTimer_boundWork b _ _).trans (State.requestRead_boundWork _ b _)

theorem State.beginPowerUp_boundWork (s : State) (b : BayId) : s.BoundWork (s.beginPowerUp b) := by
  have hbegun : s.BoundWork (s.rampBegun b) :=
    ((s.modifyBay_boundWork b _).trans (State.updateTarget_boundWork _ b _ _)).trans (State.modifyBay_boundWork _ b _)
  rw [State.beginPowerUp_eq]
  exact .ite (hbegun.trans (State.rampWaitEnd_boundWork _ b)) hbegun

theorem State.autoStart_boundWork (s : State) (b : BayId) : s.BoundWork (s.autoStart b) :=
  .ite (s.beginPowerUp_boundWork b) (.refl s)

theorem State.offTold_boundWork (s : State) (b : BayId) : s.BoundWork (s.offTold b) :=
  (s.modifyBay_boundWork b _).trans (State.enqueue_boundWork _ _ _)

theorem State.abandonHeld_boundWork (s : State) (b : BayId) : s.BoundWork (s.abandonHeld b) :=
  .ite ((s.modifyBay_boundWork b _).trans (State.completeCommand_boundWork _ b _)) (.refl s)

theorem State.cooldownEnds_boundWork (s : State) (b : BayId) : s.BoundWork (s.cooldownEnds b) := by
  unfold State.cooldownEnds
  exact (s.abandonHeld_boundWork b).trans
    (.ite (State.beginPowerUp_boundWork _ b) ((State.offTold_boundWork _ b).trans (State.autoStart_boundWork _ b)))

theorem State.coolTold_boundWork (s : State) (b : BayId) : s.BoundWork (s.coolTold b) := by
  have hcooled : s.BoundWork (s.cooled b) :=
    ((s.modifyBay_boundWork b _).trans (State.updateTarget_boundWork _ b _ _)).trans (State.modifyBay_boundWork _ b _)
  exact .ite (hcooled.trans (State.completeCommand_boundWork _ b _)) hcooled

theorem State.enterCool_boundWork (s : State) (b : BayId) (cause : Option StateCause) :
    s.BoundWork (s.enterCool b cause) := by
  rw [State.enterCool_eq]
  exact .ite
    ((((s.coolTold_boundWork b).trans (State.abandonHeld_boundWork _ b)).trans (State.enqueue_boundWork _ _ _)).trans
      (State.cooldownEnds_boundWork _ b))
    (((s.coolTold_boundWork b).trans (State.enqueue_boundWork _ _ _)).trans (State.startTimer_boundWork _ b _ _))

/-! ## Power-down and faults (R31 to R33, R43) -/

theorem State.drainDone_boundWork (s : State) (b : BayId) : s.BoundWork (s.drainDone b) := by
  unfold State.drainDone
  exact (s.updateTarget_boundWork b _ _).trans (State.enterCool_boundWork _ b _)

theorem State.drainStep_boundWork (s : State) (b : BayId) (st : SeqStep) : s.BoundWork (s.drainStep b st) := by
  unfold State.drainStep
  exact (s.updateTarget_boundWork b _ _).trans (State.modifyBay_boundWork _ b _)

theorem State.drainCompute_boundWork (fuel : Nat) (s : State) (b : BayId) :
    s.BoundWork (State.drainCompute fuel s b) := by
  induction fuel using Nat.strongRecOn generalizing s with
  | ind fuel ih =>
    unfold State.drainCompute
    split
    · exact s.drainDone_boundWork b
    · next st _ =>
      refine (s.drainStep_boundWork b st).trans (.ite (.ite (State.enterCool_boundWork _ b _)
        (.ite ?_ (State.startTimer_boundWork _ b _ _))) (.refl _))
      split
      · exact .refl _
      · next k => exact ih k (Nat.lt_succ_self k) _

theorem State.drainBegun_boundWork (s : State) (b : BayId) : s.BoundWork (s.drainBegun b) :=
  s.modifyBay_boundWork b _

theorem State.powerDown_boundWork (s : State) (b : BayId) : s.BoundWork (s.powerDown b) := by
  have haborted : s.BoundWork (s.powerOnAborted b) := .ite (s.completeCommand_boundWork b _) (.refl s)
  have hbegun := haborted.trans (State.drainBegun_boundWork _ b)
  rw [State.powerDown_aborts, State.powerDown_eq (State.powerOnAborted_bay s b ▸ Slot.afterPowerDown_not_powerOn _)]
  exact .ite hbegun (hbegun.trans (State.drainCompute_boundWork _ _ b))

theorem State.takeFault_boundWork (s : State) (b : BayId) (kind : FaultKind) : s.BoundWork (s.takeFault b kind) where
  findings c := by
    by_cases hc : c = b
    · obtain ⟨sl, hsl⟩ := s.takeFault_bay b kind
      rw [hc, hsl]
      rfl
    · rw [State.takeFault_bay_ne _ _ _ _ hc]
  requests n := by
    rw [State.takeFault_engine]
    exact (s.updateTarget_boundWork b _ true).requests n

/-! ## Sweeps and hunts (R88, R130, R137) -/

theorem State.startSweep_boundWork (s : State) (n : BusId) : s.BoundWork (s.startSweep n) := by
  have hreads : ∀ (l : List BayId) (t : State), t.BoundWork (l.foldl State.requestSweepRead t) := fun l => by
    induction l with
    | nil => exact fun t => .refl t
    | cons b l ih =>
      intro t
      have hread : t.BoundWork (t.requestSweepRead b) := t.requestRead_boundWork b _
      exact hread.trans (ih _)
  rw [State.startSweep_eq]
  refine (hreads (s.sweepBays n) s).trans ?_
  exact State.modifyEngine_boundWork _ n _

theorem State.evalSweep_boundWork (s : State) (n : BusId) : s.BoundWork (s.evalSweep n) :=
  .ite (s.startSweep_boundWork n) (.refl s)

/-- The hunt of the bay's bus once the bay is bound: a hunted bay leaves it and counts (R127, R137). -/
def State.huntAfterBinding (s : State) (b : BayId) : Option Hunt :=
  (s.engine (busOf b)).hunt.map fun h => { h.without b with bound := if s.hunted b then h.bound + 1 else h.bound }

theorem Hunt.without_of_not_hunted {h : Hunt} {b : BayId} (hb : ∀ p ∈ h.hunted, p.1 ≠ b) : h.without b = h := by
  have hall : h.hunted.filter (fun p => p.1 ≠ b) = h.hunted :=
    List.filter_eq_self.mpr fun p hp => by simpa using hb p hp
  rw [Hunt.without, hall]

theorem State.huntAfterBinding_of_not_hunted {s : State} {b : BayId} (hb : s.hunted b = false) :
    s.huntAfterBinding b = (s.engine (busOf b)).hunt := by
  unfold State.huntAfterBinding
  rw [hb]
  cases h : (s.engine (busOf b)).hunt with
  | none => rfl
  | some g =>
    have hnot : ∀ p ∈ g.hunted, p.1 ≠ b := by
      simpa [State.hunted, State.huntOrigin, h] using hb
    rw [Option.map_some, Hunt.without_of_not_hunted hnot]
    rfl

theorem State.huntBound_engine (s : State) (b : BayId) :
    (s.huntBound b).engine (busOf b) = { s.engine (busOf b) with hunt := s.huntAfterBinding b } := by
  cases hb : s.hunted b with
  | true =>
    rw [State.huntBound, if_pos hb, State.huntLeave_engine, State.modifyEngine_engine_self, State.huntAfterBinding, hb]
    simp [Hunt.without, Function.comp_def]
  | false =>
    rw [State.huntBound, if_neg (Bool.eq_false_iff.mp hb), State.huntAfterBinding_of_not_hunted hb]

theorem State.huntBound_tells (s : State) (b : BayId) : (s.huntBound b).TellsAs s := by
  unfold State.huntBound
  split
  · exact ⟨rfl, rfl, rfl⟩
  · exact .refl s

theorem State.huntBound_boundWork (s : State) (b : BayId) : s.BoundWork (s.huntBound b) where
  findings c := by rw [State.huntBound_bay_ne]
  requests n := by
    by_cases hn : n = busOf b
    · rw [hn, State.huntBound_engine]
      exact .refl _
    · rw [State.huntBound_engine_ne _ _ _ hn]
      exact .refl _

end Sys2Proof.Machine

/-! # Binding (R136, R137) -/

namespace Sys2Proof.Machine

/-! ## The bound bay (R136, R137 steps 1 to 4) -/

/-- The record of a bay that the read `levels` of moment `now` seeds, and its chain binds (R136, R137). -/
def Bay.boundBy (x : Bay) (now : Word) (levels : Half) (ch : Chain) : Bay :=
  ({ x with
    sampled := some { levels := levels, time := now }, live := Live.ofLevels levels,
    accepted := (View.ofLevels levels ch.dirs).seed x.accepted levels, candidate := none } : Bay).bindFields ch

/-- The bay bound, and its LINK record told (R137 step 4). -/
def State.boundTold (s : State) (b : BayId) (levels : Half) (ch : Chain) : State :=
  ((s.seedInputs b levels ch.dirs).modifyBay b fun x => x.bindFields ch).enqueue (.bay b) (.link .bound .bound)

section BoundTold

variable (s : State) (b : BayId) (levels : Half) (ch : Chain)

@[simp] theorem State.boundTold_bay :
    (s.boundTold b levels ch).bay b = (s.bay b).boundBy s.millis levels ch := by
  rw [State.boundTold, State.enqueue_bay, State.modifyBay_bay_self, State.seedInputs, State.modifyBay_bay_self,
    State.sampleRead, State.modifyBay_bay_self]
  rfl

@[simp] theorem State.boundTold_engine (m : BusId) : (s.boundTold b levels ch).engine m = s.engine m := rfl

@[simp] theorem State.boundTold_shell : (s.boundTold b levels ch).shell = s.shell := rfl

theorem State.boundTold_tells :
    (s.boundTold b levels ch).TellsAs (s.enqueue (.bay b) (.link .bound .bound)) := by
  have hbound : ((s.seedInputs b levels ch.dirs).modifyBay b fun x => x.bindFields ch).TellsAs s := ⟨rfl, rfl, rfl⟩
  exact hbound.enqueue _ _

theorem State.boundTold_link : ((s.boundTold b levels ch).bay b).link = .bound := by
  rw [State.boundTold_bay]
  rfl

end BoundTold

/-! ## The power state of binding (R137 step 5) -/

theorem State.bindPower_boundWork (s : State) (b : BayId) (dec : Decided) : s.BoundWork (s.bindPower b dec) := by
  cases dec with
  | cool => exact s.enterCool_boundWork b _
  | on => exact (s.updateTarget_boundWork b _ _).trans (State.enqueue_boundWork _ _ _)
  | off => exact (s.updateTarget_boundWork b _ _).trans (State.enqueue_boundWork _ _ _)

theorem State.bindPower_sequencerWork (s : State) (b : BayId) (dec : Decided) :
    s.SequencerWork (s.bindPower b dec) := by
  cases dec with
  | cool => exact s.enterCool_sequencerWork b _
  | on => exact (s.updateTarget_sequencerWork b _ _).trans (State.enqueue_sequencerWork _ _ _)
  | off => exact (s.updateTarget_sequencerWork b _ _).trans (State.enqueue_sequencerWork _ _ _)

/-- The mode of IND_P that binding corrects the indicator to (R137 step 5). -/
def Decided.indicator : Decided → IndMode
  | .on => .on
  | .off => .off
  | .cool => .off

/-- The target of a bay with IND_P in mode `m`, where the Sequencer sets it (R41). -/
def Bay.corrected (x : Bay) (m : IndMode) : Image :=
  { x.target with indP := if x.config.autoInd then m else x.target.indP }

section Corrected

variable {s : State} {b : BayId} {dec : Decided} (hdec : dec ≠ .cool)
include hdec

/-- Binding in ON or OFF corrects the indicator and tells its STATE record. -/
theorem State.bindPower_corrects :
    s.bindPower b dec = (s.updateTarget b (fun i => i.autoInd (s.bay b).config.autoInd dec.indicator) false).enqueue
      (.bay b) (.state dec.power .adopt) := by
  cases dec with
  | cool => exact absurd rfl hdec
  | on => rfl
  | off => rfl

theorem State.bindPower_corrected_bay :
    (s.bindPower b dec).bay b = { s.bay b with
      target := (s.bay b).corrected dec.indicator,
      targetGen := (s.bay b).genAfter ((s.bay b).corrected dec.indicator) } := by
  rw [State.bindPower_corrects hdec, State.enqueue_bay, State.updateTarget_bay, Image.autoInd_eq]
  rfl

theorem State.bindPower_corrected_tells :
    (s.bindPower b dec).TellsAs (s.enqueue (.bay b) (.state dec.power .adopt)) := by
  rw [State.bindPower_corrects hdec]
  exact (s.updateTarget_tells b _ _).enqueue _ _

theorem State.bindPower_corrected_hasWrite (hl : (s.bay b).link = .bound) (ht : (s.engine (busOf b)).takes = true)
    (hne : (s.bay b).corrected dec.indicator ≠ (s.bay b).target) :
    HasWrite ((s.bindPower b dec).engine (busOf b)).queue b := by
  rw [State.bindPower_corrects hdec, State.enqueue_engine, State.updateTarget_queue (by
    rw [Image.autoInd_eq]; exact hne) hl ht]
  exact hasWrite_queueWrite _ b _

end Corrected

/-! ## The hunt and the sweep of a bound bay (R87, R137 steps 6 and 7) -/

/-- The bay bound, with its power state and its hunt (R137 steps 1 to 6). -/
def State.bindCounted (s : State) (b : BayId) (levels : Half) (ch : Chain) : State :=
  ((s.boundTold b levels ch).bindPower b ch.decided).huntBound b

/-- The bay bound, with its power state, its hunt and the sweep of its bus, before the checks of R138. -/
def State.bindSettled (s : State) (b : BayId) (levels : Half) (ch : Chain) : State :=
  (s.bindCounted b levels ch).evalSweep (busOf b)

theorem State.bind_eq (s : State) (b : BayId) (levels : Half) (ch : Chain) :
    s.bind b levels ch = ((s.bindSettled b levels ch).bindChecks b).endHunt (busOf b) := rfl

theorem State.huntAfterBinding_of_hunt {s t : State} {b : BayId}
    (h : (t.engine (busOf b)).hunt = (s.engine (busOf b)).hunt) : t.huntAfterBinding b = s.huntAfterBinding b := by
  have horigin : t.huntOrigin b = s.huntOrigin b := by rw [State.huntOrigin, State.huntOrigin, h]
  rw [State.huntAfterBinding, State.huntAfterBinding, State.hunted, State.hunted, horigin, h]

section BindSettled

variable (s : State) (b : BayId) (levels : Half) (ch : Chain)

theorem State.bindCounted_shell : (s.bindCounted b levels ch).shell = s.shell := by
  rw [State.bindCounted, State.huntBound_shell, State.bindPower_shell, State.boundTold_shell]

theorem State.bindCounted_boundWork : (s.boundTold b levels ch).BoundWork (s.bindCounted b levels ch) :=
  (State.bindPower_boundWork _ b _).trans (State.huntBound_boundWork _ b)

theorem State.bindCounted_engine :
    ∃ q, (s.bindCounted b levels ch).engine (busOf b) =
      { s.engine (busOf b) with hunt := s.huntAfterBinding b, queue := q } := by
  have hengine := ((s.boundTold b levels ch).bindPower_sequencerWork b ch.decided).engine (busOf b)
  rw [State.boundTold_engine] at hengine
  have hhunt : ((s.boundTold b levels ch).bindPower b ch.decided).huntAfterBinding b = s.huntAfterBinding b :=
    State.huntAfterBinding_of_hunt (by rw [hengine])
  refine ⟨(((s.boundTold b levels ch).bindPower b ch.decided).engine (busOf b)).queue, ?_⟩
  rw [State.bindCounted, State.huntBound_engine, hhunt, hengine]

theorem State.bindSettled_bay (c : BayId) :
    (s.bindSettled b levels ch).bay c = ((s.boundTold b levels ch).bindPower b ch.decided).bay c := by
  rw [State.bindSettled, State.evalSweep_bay_ne, State.bindCounted, State.huntBound_bay_ne]

theorem State.bindSettled_tells :
    (s.bindSettled b levels ch).TellsAs ((s.boundTold b levels ch).bindPower b ch.decided) :=
  (State.TellsAs.of_shell (State.evalSweep_sweepWork _ _).events (State.evalSweep_shell _ _)).trans
    (State.huntBound_tells _ b)

theorem State.bindSettled_shell : (s.bindSettled b levels ch).shell = s.shell := by
  rw [State.bindSettled, State.evalSweep_shell, State.bindCounted_shell]

theorem State.bindSettled_boundWork : (s.boundTold b levels ch).BoundWork (s.bindSettled b levels ch) :=
  (s.bindCounted_boundWork b levels ch).trans (State.evalSweep_boundWork _ _)

theorem State.bindSettled_engine :
    ∃ q w, (s.bindSettled b levels ch).engine (busOf b) =
      { s.engine (busOf b) with hunt := s.huntAfterBinding b, queue := q, sweep := w } := by
  obtain ⟨q, hq⟩ := s.bindCounted_engine b levels ch
  have hengine := ((s.bindCounted b levels ch).evalSweep_sweepWork (busOf b)).engine
  rw [hq] at hengine
  exact ⟨_, _, hengine⟩

end BindSettled

/-- The sweep of the bus once a bay of it is bound: a new one where the alert stands and none is running (R87). -/
theorem State.bindSettled_sweep (s : State) (b : BayId) (levels : Half) (ch : Chain)
    (hb : (s.engine (busOf b)).bus ≠ .failed) :
    if (s.engine (busOf b)).sweep = none ∧ s.alerts[busOf b] = true ∧ (s.engine (busOf b)).config.enable = true
    then (s.bindSettled b levels ch).SweepStarted (busOf b)
    else ((s.bindSettled b levels ch).engine (busOf b)).sweep = (s.engine (busOf b)).sweep := by
  obtain ⟨q, hengine⟩ := s.bindCounted_engine b levels ch
  have hshell := s.bindCounted_shell b levels ch
  have hlink : ((s.bindCounted b levels ch).bay b).link = .bound :=
    ((s.bindCounted_boundWork b levels ch).link b).trans (s.boundTold_link b levels ch)
  unfold State.bindSettled
  generalize s.bindCounted b levels ch = v at hengine hshell hlink
  have halerts : v.alerts = s.alerts := congrArg Shell.alerts hshell
  have hcond : v.sweepCondition (busOf b) = true ↔
      s.alerts[busOf b] = true ∧ (s.engine (busOf b)).config.enable = true := by
    have hany : ((baysOf (busOf b)).any fun c => (v.bay c).link = .bound) = true :=
      List.any_eq_true.mpr ⟨b, mem_baysOf_busOf b, by simpa using hlink⟩
    unfold State.sweepCondition
    rw [hany, halerts, hengine, Engine.takes]
    simp [hb]
  have hsweep : (v.engine (busOf b)).sweep = (s.engine (busOf b)).sweep := by rw [hengine]
  unfold State.evalSweep
  rw [hsweep]
  split
  · next h =>
    rw [if_pos (by simp [h.1, hcond.mpr h.2])]
    exact State.startSweep_started _ _ (hcond.mpr h.2)
  · next h =>
    rw [if_neg (by simpa [hcond] using h)]
    exact hsweep

/-! ## The checks after binding (R138) -/

/-- The check of an ON bay's levels (R138). -/
def State.checkLevels (s : State) (b : BayId) : State :=
  if (s.bay b).power = .on && ((s.bay b).live.fault || !(s.bay b).live.pgood) then
    s.takeFault b (if (s.bay b).live.fault then .fltInput else .pgoodLost)
  else s

/-- The check of an ON bay's module (R138). -/
def State.checkModule (s : State) (b : BayId) : State :=
  if (s.bay b).power = .on && !(s.bay b).accepted.present && (s.bay b).config.surpriseOff then s.powerDown b else s

/-- The report of FAULT in OFF or COOL (R138). -/
def State.checkIdle (s : State) (b : BayId) (fault : Bool) : State :=
  if ((s.bay b).power = .off || (s.bay b).power = .cool) && fault then s.enqueue (.bay b) (.fault .fltInputIdle)
  else s

theorem State.bindChecks_eq (s : State) (b : BayId) :
    s.bindChecks b = (((s.checkLevels b).checkModule b).autoStart b).checkIdle b (s.bay b).live.fault := rfl

theorem State.bindChecks_boundWork (s : State) (b : BayId) : s.BoundWork (s.bindChecks b) := by
  have hlevels : s.BoundWork (s.checkLevels b) := .ite (s.takeFault_boundWork b _) (.refl s)
  have hmodule : ∀ t : State, t.BoundWork (t.checkModule b) := fun t => .ite (t.powerDown_boundWork b) (.refl t)
  have hidle : ∀ t : State, t.BoundWork (t.checkIdle b (s.bay b).live.fault) := fun t =>
    .ite (t.enqueue_boundWork _ _) (.refl t)
  exact ((hlevels.trans (hmodule _)).trans (State.autoStart_boundWork _ b)).trans (hidle _)

theorem State.bindChecks_sequencerWork (s : State) (b : BayId) : s.SequencerWork (s.bindChecks b) := by
  have hlevels : s.SequencerWork (s.checkLevels b) := .ite (s.takeFault_sequencerWork b _) (.refl s)
  have hmodule : ∀ t : State, t.SequencerWork (t.checkModule b) := fun t =>
    .ite (t.powerDown_sequencerWork b) (.refl t)
  have hidle : ∀ t : State, t.SequencerWork (t.checkIdle b (s.bay b).live.fault) := fun t =>
    .ite (t.enqueue_sequencerWork _ _) (.refl t)
  exact ((hlevels.trans (hmodule _)).trans (State.autoStart_sequencerWork _ b)).trans (hidle _)

section BindChecks

variable {s : State} {b : BayId}

theorem State.checkLevels_rests
    (h : (s.bay b).power = .on → (s.bay b).live.fault = false ∧ (s.bay b).live.pgood = true) :
    s.checkLevels b = s := by
  refine if_neg fun hc => ?_
  rw [Bool.and_eq_true, decide_eq_true_eq] at hc
  obtain ⟨hp, hlevels⟩ := hc
  obtain ⟨hf, hg⟩ := h hp
  rw [hf, hg] at hlevels
  cases hlevels

theorem State.checkModule_rests
    (h : (s.bay b).power = .on → (s.bay b).accepted.present = true ∨ (s.bay b).config.surpriseOff = false) :
    s.checkModule b = s := by
  refine if_neg fun hc => ?_
  simp only [Bool.and_eq_true, decide_eq_true_eq, Bool.not_eq_true'] at hc
  obtain ⟨⟨hp, habsent⟩, hoff⟩ := hc
  rcases h hp with hm | hm
  · rw [habsent] at hm; cases hm
  · rw [hoff] at hm; cases hm

theorem State.checkIdle_rests (hoff : (s.bay b).power ≠ .off) (hcool : (s.bay b).power ≠ .cool) (fault : Bool) :
    s.checkIdle b fault = s :=
  if_neg (by simp [hoff, hcool])

/-- A bay in OFF or COOL tells FAULT, where it is asserted (R45, R138). -/
theorem State.checkIdle_of_idle (hp : (s.bay b).power = .off ∨ (s.bay b).power = .cool) (fault : Bool) :
    s.checkIdle b fault = s.enqueueAll (.bay b) (if fault then [.fault .fltInputIdle] else []) := by
  rcases hp with hp | hp <;> cases fault <;> simp [State.checkIdle, hp]

theorem State.checkIdle_quiet : s.checkIdle b false = s := if_neg (by simp)

/-- A bay in ON with its levels and its module as they should be stays as it is. -/
theorem State.bindChecks_on (hp : (s.bay b).power = .on) (hf : (s.bay b).live.fault = false)
    (hg : (s.bay b).live.pgood = true)
    (hm : (s.bay b).accepted.present = true ∨ (s.bay b).config.surpriseOff = false) : s.bindChecks b = s := by
  rw [State.bindChecks_eq, State.checkLevels_rests fun _ => ⟨hf, hg⟩, State.checkModule_rests fun _ => hm,
    State.autoStart_rests fun h => absurd (hp.symm.trans h) nofun, hf, State.checkIdle_quiet]

/-- A bay in ON that shows FAULT, or no PGOOD, takes a fault. -/
theorem State.bindChecks_faults (hp : (s.bay b).power = .on)
    (h : (s.bay b).live.fault = true ∨ (s.bay b).live.pgood = false) :
    s.bindChecks b = s.takeFault b (if (s.bay b).live.fault then .fltInput else .pgoodLost) := by
  have hlevels : s.checkLevels b = s.takeFault b (if (s.bay b).live.fault then .fltInput else .pgoodLost) :=
    if_pos (by rcases h with h | h <;> simp [hp, h])
  obtain ⟨sl, hbay⟩ := s.takeFault_bay b (if (s.bay b).live.fault then .fltInput else .pgoodLost)
  have hpower : ((s.checkLevels b).bay b).power = .faulted := by rw [hlevels, hbay]; rfl
  rw [State.bindChecks_eq, State.checkModule_rests fun hon => absurd (hpower.symm.trans hon) nofun,
    State.autoStart_rests fun hoff => absurd (hpower.symm.trans hoff) nofun,
    State.checkIdle_rests (hpower ▸ nofun) (hpower ▸ nofun), hlevels]

/-- A bay in ON that misses its module begins a drain, where SURPRISE_OFF asks for it. -/
theorem State.bindChecks_drains (hp : (s.bay b).power = .on) (hf : (s.bay b).live.fault = false)
    (hg : (s.bay b).live.pgood = true) (hm : (s.bay b).accepted.present = false)
    (hs : (s.bay b).config.surpriseOff = true) (hd : ((s.powerDown b).bay b).power = .drain) :
    s.bindChecks b = s.powerDown b := by
  have hmodule : s.checkModule b = s.powerDown b := if_pos (by simp [hp, hm, hs])
  rw [State.bindChecks_eq, State.checkLevels_rests fun _ => ⟨hf, hg⟩, hmodule,
    State.autoStart_rests fun hoff => absurd (hd.symm.trans hoff) nofun, hf, State.checkIdle_quiet]

/-- A bay that is not ON and is not to be started tells a FAULT in OFF or COOL, and stays as it is. -/
theorem State.bindChecks_idle (hp : (s.bay b).power ≠ .on)
    (hr : (s.bay b).power = .off → s.autoStartReady b = false) :
    s.bindChecks b = s.checkIdle b (s.bay b).live.fault := by
  rw [State.bindChecks_eq, State.checkLevels_rests fun h => absurd h hp, State.checkModule_rests fun h => absurd h hp,
    State.autoStart_rests hr]

/-- A bay in OFF that is to be started begins its power-up. -/
theorem State.bindChecks_starts (hp : (s.bay b).power = .off) (hr : s.autoStartReady b = true) :
    s.bindChecks b = s.beginPowerUp b := by
  obtain ⟨tm, g, hbay⟩ := s.beginPowerUp_bay b
  have hpower : ((s.beginPowerUp b).bay b).power = .ramp := by rw [hbay]
  rw [State.bindChecks_eq, State.checkLevels_rests fun h => absurd (hp.symm.trans h) nofun,
    State.checkModule_rests fun h => absurd (hp.symm.trans h) nofun, State.autoStart_started hp hr,
    State.checkIdle_rests (hpower ▸ nofun) (hpower ▸ nofun)]

end BindChecks

/-! ## The completed seeding read (R136 to R138) -/

/-- What a completed seeding read leaves, by the state `u` of the checks after binding: the bays as there, and the
hunt and its HUNT_DONE last (R130, R138). -/
theorem State.bind_answers {s u : State} {b : BayId} {levels : Half} {ch : Chain}
    (hu : (s.bindSettled b levels ch).bindChecks b = u) :
    (∀ c, (s.bind b levels ch).bay c = u.bay c) ∧
    (s.bind b levels ch).engine (busOf b) = { u.engine (busOf b) with hunt := huntLeft (s.huntAfterBinding b) } ∧
    (s.bind b levels ch).TellsAs (u.tellHunt (busOf b) (s.huntAfterBinding b)) := by
  subst hu
  obtain ⟨q, w, hsettled⟩ := s.bindSettled_engine b levels ch
  have hhunt : (((s.bindSettled b levels ch).bindChecks b).engine (busOf b)).hunt = s.huntAfterBinding b := by
    rw [((s.bindSettled b levels ch).bindChecks_sequencerWork b).engine, hsettled]
  have htells := ((s.bindSettled b levels ch).bindChecks b).endHunt_tells (busOf b)
  rw [hhunt] at htells
  rw [State.bind_eq]
  exact ⟨fun c => State.endHunt_bay_ne _ _ c, by rw [State.endHunt_engine, hhunt], htells⟩

/-- The state of the checks after binding, the bus of the completed seeding read idle (R116, R138). -/
def State.readBound (s : State) (b : BayId) (levels : Half) (ch : Chain) : State :=
  (s.busIdle (busOf b)).bindSettled b levels ch

/-- What the Discovery Unit does with a completed seeding read; without a chain, nothing (log entry 19). -/
def State.bindRead (levels : Half) (s : State) (e : Entry) : State :=
  match (s.bay e.bay).chain with
  | none => s
  | some ch => s.bind e.bay levels ch

theorem State.bindRead_of_chain {s : State} {e : Entry} {ch : Chain} (h : (s.bay e.bay).chain = some ch)
    (levels : Half) : State.bindRead levels s e = s.bind e.bay levels ch := by
  unfold State.bindRead
  rw [h]

theorem exec_seedingReadComplete (n : BusId) (input output direction : Half) (s : State) :
    exec (.seedingReadComplete n input output direction) s =
      s.event (s.completeTx n (.setup .seedingRead) (State.bindRead input)) := rfl

/-- The answer of a completed seeding read, by the state `u` of the checks after binding. -/
theorem exec_seedingReadComplete_answers {s u : State} {n : BusId} {e : Entry} {a : Nat} {ch : Chain} {input : Half}
    (hw : s.OnWire n e a) (hk : e.kind = .setup .seedingRead) (hn : busOf e.bay = n)
    (hc : (s.bay e.bay).chain = some ch) (hu : (s.readBound e.bay input ch).bindChecks e.bay = u)
    (output direction : Half) :
    ∃ t, exec (.seedingReadComplete n input output direction) s = .next t ∧ (∀ c, t.bay c = u.bay c) ∧
      t.engine n = { u.engine n with hunt := huntLeft (s.huntAfterBinding e.bay) } ∧
      t.TellsAs (u.tellHunt n (s.huntAfterBinding e.bay)) ∧ (∀ c, c ≠ e.bay → t.bay c = s.bay c) ∧
      t.shell = s.shell := by
  subst hn
  obtain ⟨t, hexec, ha⟩ := State.completeTx_answers hw hk (State.bindRead input)
  obtain ⟨hbay, hengine, htells⟩ := State.bind_answers hu
  have hhunt : (s.busIdle (busOf e.bay)).huntAfterBinding e.bay = s.huntAfterBinding e.bay :=
    State.huntAfterBinding_of_hunt (by rw [State.busIdle_engine])
  rw [hhunt] at hengine htells
  rw [State.bindRead_of_chain (s := s.busIdle _) hc] at ha
  rw [exec_seedingReadComplete]
  refine ⟨t, hexec, fun c => (ha.bay c).trans (hbay c), (ha.engine _).trans hengine, ha.tells.trans htells,
    fun c hc => ?_, ?_⟩
  · rw [ha.bay, State.bind_bay_ne _ _ _ _ _ hc, State.busIdle_bay]
  · rw [ha.shell, State.bind_shell, State.busIdle_shell]

/-! ## The state of the checks (R136, R137) -/

section ReadBound

variable (s : State) (b : BayId) (levels : Half) (ch : Chain)

theorem State.readBound_boundWork :
    ((s.busIdle (busOf b)).boundTold b levels ch).BoundWork (s.readBound b levels ch) :=
  State.bindSettled_boundWork _ b levels ch

theorem State.readBound_engine :
    ∃ q w, (s.readBound b levels ch).engine (busOf b) =
      { s.engine (busOf b) with bus := .idle, hunt := s.huntAfterBinding b, queue := q, sweep := w } := by
  obtain ⟨q, w, hengine⟩ := (s.busIdle (busOf b)).bindSettled_engine b levels ch
  have hhunt : (s.busIdle (busOf b)).huntAfterBinding b = s.huntAfterBinding b :=
    State.huntAfterBinding_of_hunt (by rw [State.busIdle_engine])
  rw [hhunt, State.busIdle_engine] at hengine
  exact ⟨q, w, hengine⟩

theorem State.readBound_shell : (s.readBound b levels ch).shell = s.shell :=
  (State.bindSettled_shell _ b levels ch).trans (s.busIdle_shell _)

theorem State.readBound_findings :
    ((s.readBound b levels ch).bay b).findings = ((s.bay b).boundBy s.millis levels ch).findings := by
  rw [(s.readBound_boundWork b levels ch).findings b, State.boundTold_bay, State.busIdle_bay]
  rfl

theorem State.readBound_live :
    ((s.readBound b levels ch).bay b).live = { fault := !levels.getLsbD 11, pgood := levels.getLsbD 12 } :=
  congrArg (fun f => f.2.2.1) (s.readBound_findings b levels ch)

theorem State.readBound_accepted :
    ((s.readBound b levels ch).bay b).accepted = (View.ofLevels levels ch.dirs).seed (s.bay b).accepted levels :=
  congrArg (fun f => f.2.2.2.1) (s.readBound_findings b levels ch)

theorem State.readBound_classProfile :
    (s.readBound b levels ch).classProfile b =
      ((View.ofLevels levels ch.dirs).seed (s.bay b).accepted levels).moduleClass.bind fun c =>
        s.classMap[c.toNat] := by
  have hmap : (s.readBound b levels ch).classMap = s.classMap :=
    congrArg Shell.classMap (s.readBound_shell b levels ch)
  rw [State.classProfile, State.readBound_accepted]
  simp only [hmap]

theorem State.readBound_writeUnderWay : (s.readBound b levels ch).writeUnderWay b = false := by
  obtain ⟨q, w, hengine⟩ := s.readBound_engine b levels ch
  rw [State.writeUnderWay, hengine]
  rfl

theorem State.readBound_takes (henable : (s.engine (busOf b)).config.enable = true) :
    ((s.readBound b levels ch).engine (busOf b)).takes = true := by
  obtain ⟨q, w, hengine⟩ := s.readBound_engine b levels ch
  rw [hengine]
  exact Engine.takes_of_idle rfl henable

theorem State.readBound_sweep :
    if (s.engine (busOf b)).sweep = none ∧ s.alerts[busOf b] = true ∧ (s.engine (busOf b)).config.enable = true
    then (s.readBound b levels ch).SweepStarted (busOf b)
    else ((s.readBound b levels ch).engine (busOf b)).sweep = (s.engine (busOf b)).sweep := by
  have hsweep := (s.busIdle (busOf b)).bindSettled_sweep b levels ch (by rw [State.busIdle_engine]; nofun)
  rw [State.busIdle_engine] at hsweep
  exact hsweep

theorem State.readBound_link : ((s.readBound b levels ch).bay b).link = .bound :=
  ((s.readBound_boundWork b levels ch).link b).trans (State.boundTold_link _ b levels ch)

end ReadBound

section ReadCorrected

variable {s : State} {b : BayId} {levels : Half} {ch : Chain} (hdec : ch.decided ≠ .cool)
include hdec

theorem State.readBound_corrected_bay :
    (s.readBound b levels ch).bay b = { (s.bay b).boundBy s.millis levels ch with
      target := (s.bay b).corrected ch.decided.indicator,
      targetGen := (s.bay b).genAfter ((s.bay b).corrected ch.decided.indicator) } := by
  rw [State.readBound, State.bindSettled_bay, State.bindPower_corrected_bay hdec, State.boundTold_bay,
    State.busIdle_bay]
  rfl

theorem State.readBound_corrected_tells :
    (s.readBound b levels ch).TellsAs
      (s.enqueueAll (.bay b) [.link .bound .bound, .state ch.decided.power .adopt]) :=
  (State.bindSettled_tells _ b levels ch).trans ((State.bindPower_corrected_tells hdec).trans
    (((State.boundTold_tells _ b levels ch).trans ((s.busIdle_tells _).enqueue _ _)).enqueue _ _))

theorem State.readBound_corrected_hasWrite (henable : (s.engine (busOf b)).config.enable = true)
    (hne : (s.bay b).corrected ch.decided.indicator ≠ (s.bay b).target) :
    HasWrite ((s.readBound b levels ch).engine (busOf b)).queue b := by
  have hwrite : HasWrite ((((s.busIdle (busOf b)).boundTold b levels ch).bindPower b ch.decided).engine
      (busOf b)).queue b := by
    refine State.bindPower_corrected_hasWrite hdec (State.boundTold_link _ b levels ch) ?_ ?_
    · rw [State.boundTold_engine, State.busIdle_engine]
      exact Engine.takes_of_idle rfl henable
    · rw [State.boundTold_bay]
      exact hne
  exact (((State.huntBound_boundWork _ b).trans (State.evalSweep_boundWork _ _)).requests _).hasWrite hwrite

end ReadCorrected

end Sys2Proof.Machine

/-! # What a completed seeding read binds (R136, R137) -/

namespace Sys2Proof.Machine

theorem State.SweepsAs.sweepStarted {t u : State} {n : BusId} (h : u.SweepsAs t n) (hs : t.SweepStarted n) :
    u.SweepStarted n := by
  obtain ⟨hbays, hreads⟩ := hs
  exact ⟨by simp only [h.link, h.sweep]; exact hbays, fun c hc hl => h.reads c (hreads c hc (by rwa [← h.link]))⟩

/-- Work that moves of a bus the queue alone, and loses no request of it, does not move its sweep. -/
theorem State.BoundWork.sweepsAs {s t : State} (h : s.BoundWork t) (hwork : s.SequencerWork t)
    (hshell : t.shell = s.shell) (n : BusId) : t.SweepsAs s n where
  alerts := congrArg Shell.alerts hshell
  link := h.link
  takes := by rw [hwork.engine n]; rfl
  sweep := hwork.sweep n
  reads _ := (h.requests n).hasSweepRead

/-- A hunt is no part of what a sweep reads (R87). -/
theorem State.SweepsAs.of_hunt {t u : State} {n : BusId} {h : Option Hunt} (hs : t.shell = u.shell)
    (hl : ∀ c, (t.bay c).link = (u.bay c).link) (he : t.engine n = { u.engine n with hunt := h }) : t.SweepsAs u n :=
  ⟨congrArg Shell.alerts hs, hl, by rw [he]; rfl, by rw [he], fun c => by rw [he]; exact id⟩

/-- A bound bay is not in UNKNOWN: binding decides its power state, and no check takes it away (R3, R137, R138). -/
theorem State.bindChecks_power {s : State} {b : BayId} {levels : Half} {ch : Chain} :
    (((s.readBound b levels ch).bindChecks b).bay b).power ≠ .unknown := by
  have hlink := State.boundTold_link (s.busIdle (busOf b)) b levels ch
  have hok : (((s.busIdle (busOf b)).boundTold b levels ch).bay b).LinkOk :=
    .of_bound hlink (by rw [State.boundTold_bay]; exact ch.decided.power_ne_unknown)
  have hsettled : ((s.busIdle (busOf b)).boundTold b levels ch).Keeps (s.readBound b levels ch) :=
    (State.bindPower_serves _ b _ hlink).trans ((State.huntBound_keeps _ b).trans (State.evalSweep_keeps _ _))
  have hchecked := hsettled.trans (State.bindChecks_serves _ b (s.readBound_link b levels ch))
  exact (hchecked.linkOk b hok).power_ne_unknown.mpr ((hchecked.link b).trans hlink)

/-- A completed seeding read whose records are known, by the state `u` of the checks after binding. -/
theorem exec_seedingReadComplete_tells {s u : State} {n : BusId} {e : Entry} {a : Nat} {ch : Chain} {input : Half}
    {ds : List Detail} (hw : s.OnWire n e a) (hk : e.kind = .setup .seedingRead) (hn : busOf e.bay = n)
    (hc : (s.bay e.bay).chain = some ch) (hu : (s.readBound e.bay input ch).bindChecks e.bay = u)
    (htells : u.TellsAs (s.enqueueAll (.bay e.bay) ds)) (output direction : Half) :
    ∃ t, exec (.seedingReadComplete n input output direction) s = .next t ∧
      t.events = ((s.enqueueAll (.bay e.bay) ds).tellHunt n (s.huntAfterBinding e.bay)).events ∧
      t.bay e.bay = u.bay e.bay ∧ (t.engine n).queue = (u.engine n).queue := by
  obtain ⟨t, hexec, hbay, hengine, htold, -, -⟩ := exec_seedingReadComplete_answers hw hk hn hc hu output direction
  exact ⟨t, hexec, (htold.trans (htells.tellHunt _ _)).events, hbay _, by rw [hengine]⟩

theorem State.autoStartReady_unasked {s : State} {b : BayId} (h : (s.bay b).config.autoOn = false) :
    s.autoStartReady b = false := by
  simp [State.autoStartReady, h]

theorem View.seed_class (levels : Half) (d : Dirs) (a : Accepted) :
    ((View.ofLevels levels d).seed a levels).moduleClass =
      if levels.getLsbD 8 then none else some (levels.extractLsb' 13 3) := by
  cases h : levels.getLsbD 8 <;> simp only [View.seed, View.ofLevels, h] <;> rfl

/-- Settles O49: what binding finds stays through its checks, and a bay bound OFF at rest is not moved by them. -/
theorem seedingReadBinds : Obligations.SeedingReadBinds := by
  intro n e a ch input output direction s hw hk hn hc x hunt
  refine ⟨?_, fun hoff hfault hauto hind => ?_⟩
  · obtain ⟨t, hexec, hbay, hengine, -, helse, hshell⟩ :=
      exec_seedingReadComplete_answers hw hk hn hc rfl (input := input) output direction
    subst hn
    have hfound := ((s.readBound_boundWork e.bay input ch).trans (State.bindChecks_boundWork _ e.bay)).findings e.bay
    rw [← hbay, State.boundTold_bay, State.busIdle_bay] at hfound
    simp only [Bay.findings, Prod.mk.injEq] at hfound
    obtain ⟨hlink, hsampled, hlive, haccepted, hdirs, hcandidate, hfailures, hchain⟩ := hfound
    obtain ⟨q, w, hsettled⟩ := s.readBound_engine e.bay input ch
    have hchecks := (State.bindChecks_sequencerWork (s.readBound e.bay input ch) e.bay).engine (busOf e.bay)
    rw [hsettled] at hchecks
    refine ⟨t, hexec, hlink, by rw [hbay]; exact State.bindChecks_power, hfailures, hdirs, hcandidate, hchain, hsampled,
      hlive, by rw [haccepted]; rfl, by rw [haccepted]; rfl, by rw [haccepted]; rfl, ?_, by rw [hengine, hchecks],
      by rw [hengine]; rfl, ?_, helse, hshell⟩
    · rw [haccepted]
      exact View.seed_class _ _ _
    · have hsweep := s.readBound_sweep e.bay input ch
      have hsame : t.SweepsAs (s.readBound e.bay input ch) (busOf e.bay) := by
        have hu := (State.bindChecks_boundWork (s.readBound e.bay input ch) e.bay).sweepsAs
          (State.bindChecks_sequencerWork _ _) (State.bindChecks_shell _ _) (busOf e.bay)
        refine (State.SweepsAs.of_hunt ?_ (fun c => congrArg Bay.link (hbay c)) hengine).trans hu
        rw [hshell, State.bindChecks_shell, State.readBound_shell]
      split
      · next h =>
        rw [if_pos h] at hsweep
        exact hsame.sweepStarted hsweep
      · next h =>
        rw [if_neg h] at hsweep
        exact hsame.sweep.trans hsweep
  · have hnot : ch.decided ≠ .cool := by rw [hoff]; nofun
    have hcorrected : x.corrected ch.decided.indicator = x.target := by
      rw [hoff, Bay.corrected, Decided.indicator, ← hind]
      simp
    have hwbay := State.readBound_corrected_bay (s := s) (b := e.bay) (levels := input) hnot
    have hwtells := State.readBound_corrected_tells (s := s) (b := e.bay) (levels := input) hnot
    rw [hcorrected] at hwbay
    rw [hoff] at hwtells
    have hpower : ((s.readBound e.bay input ch).bay e.bay).power = .off := by
      rw [hwbay]
      exact congrArg Decided.power hoff
    have hrests : (s.readBound e.bay input ch).bindChecks e.bay = s.readBound e.bay input ch := by
      have hready := State.autoStartReady_unasked (s := s.readBound e.bay input ch) (by rw [hwbay]; exact hauto)
      rw [State.bindChecks_idle (by rw [hpower]; nofun) fun _ => hready, State.readBound_live, hfault]
      exact State.checkIdle_quiet
    obtain ⟨t, hexec, hevents, hbay, -⟩ := exec_seedingReadComplete_tells hw hk hn hc hrests hwtells output direction
    subst hn
    refine ⟨t, hexec, by rw [hbay, hpower], ?_⟩
    rw [hbay, hwbay]
    exact ⟨rfl, rfl, ⟨rfl, if_pos rfl, rfl⟩, hevents⟩

end Sys2Proof.Machine

/-! # What binding does by the decided power state (R137, R138) -/

namespace Sys2Proof.Machine

/-! ## The fault and the drain of an ON bay (R32, R43) -/

theorem Bay.genAfter_cases (x : Bay) (i : Image) : x.genAfter i = x.targetGen ∨ x.genAfter i = x.targetGen + 1 := by
  unfold Bay.genAfter
  split
  · exact .inl rfl
  · exact .inr rfl

/-- A fault switches PWR_EN off: where it was on, the update changes the target (R43). -/
theorem Bay.faulted_target_ne {x : Bay} (h : x.target.pwrEn = true) (kind : FaultKind) :
    (x.faulted kind).target ≠ x.target := fun heq => by
  have hoff : (x.faulted kind).target.pwrEn = false := by
    change (faultUpdate x.config x.target).pwrEn = false
    rw [faultUpdate_eq]
  rw [heq, h] at hoff
  cases hoff

/-- The update of a fault takes the indicator correction of binding with it (R41, R43). -/
theorem faultUpdate_corrected (x : Bay) (m : IndMode) :
    faultUpdate x.config (x.corrected m) =
      { x.corrected .fast with pwrEn := false, clkEn := false, released := false } := by
  rw [faultUpdate_eq]
  unfold Bay.corrected
  cases x.config.autoInd <;> rfl

/-! ## Binding in ON (R137, R138) -/

section On

variable {s : State} {b : BayId} {levels : Half} {ch : Chain} (hdec : ch.decided = .on)
include hdec

theorem State.readBound_on_bay :
    (s.readBound b levels ch).bay b = { (s.bay b).boundBy s.millis levels ch with
      power := .on, idleNote := false, target := (s.bay b).corrected .on,
      targetGen := (s.bay b).genAfter ((s.bay b).corrected .on) } := by
  rw [State.readBound_corrected_bay (by rw [hdec]; nofun)]
  simp [Bay.boundBy, Bay.bindFields, Decided.power, Decided.indicator, hdec]

theorem State.readBound_on_power : ((s.readBound b levels ch).bay b).power = .on := by
  rw [State.readBound_on_bay hdec]

theorem State.readBound_on_tells :
    (s.readBound b levels ch).TellsAs (s.enqueueAll (.bay b) [.link .bound .bound, .state .on .adopt]) := by
  have htells := State.readBound_corrected_tells (s := s) (b := b) (levels := levels) (ch := ch) (by rw [hdec]; nofun)
  rw [hdec] at htells
  exact htells

/-- A bay bound ON with its levels and its module as they should be stays as it is bound. -/
theorem State.readBound_on_rests (hf : levels.getLsbD 11 = true) (hg : levels.getLsbD 12 = true)
    (hm : levels.getLsbD 8 = false ∨ (s.bay b).config.surpriseOff = false) :
    (s.readBound b levels ch).bindChecks b = s.readBound b levels ch := by
  refine State.bindChecks_on (State.readBound_on_power hdec) ?_ ?_ ?_
  · rw [State.readBound_live, hf]; rfl
  · rw [State.readBound_live, hg]
  · refine hm.imp (fun h => ?_) fun h => ?_
    · rw [State.readBound_accepted, View.seed, View.ofLevels, h]; rfl
    · rw [State.readBound_on_bay hdec]; exact h

/-- A bay bound ON that shows FAULT, or no PGOOD, takes a fault. -/
theorem State.readBound_on_faults (h : levels.getLsbD 11 = false ∨ levels.getLsbD 12 = false) :
    (s.readBound b levels ch).bindChecks b =
      (s.readBound b levels ch).takeFault b (if levels.getLsbD 11 then .pgoodLost else .fltInput) := by
  rw [State.bindChecks_faults (State.readBound_on_power hdec), State.readBound_live]
  · cases levels.getLsbD 11 <;> rfl
  · rw [State.readBound_live]
    exact h.imp (fun h => by rw [h]; rfl) id

theorem State.readBound_on_faulted (kind : FaultKind) :
    ∃ sl, ((s.readBound b levels ch).takeFault b kind).bay b =
      { ({ (s.bay b).boundBy s.millis levels ch with
          power := .on, idleNote := false, target := (s.bay b).corrected .on,
          targetGen := (s.bay b).genAfter ((s.bay b).corrected .on) } : Bay).faulted kind with slot := sl } := by
  obtain ⟨sl, hsl⟩ := (s.readBound b levels ch).takeFault_bay b kind
  exact ⟨sl, by rw [hsl, State.readBound_on_bay hdec]⟩

theorem State.readBound_on_faultTold (hs : (s.bay b).slot.inProgress = false) (kind : FaultKind) :
    ((s.readBound b levels ch).takeFault b kind).TellsAs
      (s.enqueueAll (.bay b) [.link .bound .bound, .state .on .adopt, .fault kind, .state .faulted .fault]) := by
  have hslot : ((s.readBound b levels ch).bay b).slot.inProgress = false := by
    rw [State.readBound_on_bay hdec]
    exact hs
  exact (State.takeFault_told_idle hslot kind).1.trans ((State.readBound_on_tells hdec).enqueueAll _ _)

/-- The fault of a bay bound ON: the write that switches its power off is urgent (R43, R110). -/
theorem State.readBound_on_urgent (hp : (s.bay b).target.pwrEn = true)
    (henable : (s.engine (busOf b)).config.enable = true) (kind : FaultKind) :
    HasUrgentWrite (((s.readBound b levels ch).takeFault b kind).engine (busOf b)).queue b := by
  refine State.takeFault_hasUrgentWrite (Bay.faulted_target_ne ?_ kind) (s.readBound_link b levels ch)
    (s.readBound_takes b levels ch henable)
  rw [State.readBound_on_bay hdec]
  exact hp

/-- The step generation of a drain that follows the correction of the indicator is still to come, where neither of
the next two is reached (R11, R22). -/
theorem State.readBound_on_waits {st : SeqStep}
    (hne : drainUpdate (s.bay b).config (s.bay b).confirmedImage st ((s.bay b).corrected .on) ≠ (s.bay b).corrected .on)
    (h1 : (s.bay b).reached ((s.bay b).targetGen + 1) = false)
    (h2 : (s.bay b).reached ((s.bay b).targetGen + 2) = false) :
    ((s.readBound b levels ch).bay b).reached (((s.readBound b levels ch).bay b).drainGen st) = false := by
  have hgen : ((s.readBound b levels ch).bay b).drainGen st = (s.bay b).genAfter ((s.bay b).corrected .on) + 1 := by
    rw [State.readBound_on_bay hdec]
    exact if_neg hne
  have htwo : (s.bay b).targetGen + 1 + 1 = (s.bay b).targetGen + 2 := by bv_omega
  rw [hgen, State.readBound_on_bay hdec]
  rcases (s.bay b).genAfter_cases ((s.bay b).corrected .on) with h | h <;> rw [h]
  · exact h1
  · rw [htwo]
    exact h2

/-- The drain of a bay bound ON without its module waits for its first step (R32, R138). -/
theorem State.readBound_on_drains {st : SeqStep} (hf : levels.getLsbD 11 = true) (hg : levels.getLsbD 12 = true)
    (hm : levels.getLsbD 8 = true) (hoff : (s.bay b).config.surpriseOff = true)
    (hs : (s.bay b).slot.inProgress = false) (hcase : drainCase (s.bay b).confirmedImage = some st)
    (hwait : ((s.readBound b levels ch).bay b).reached (((s.readBound b levels ch).bay b).drainGen st) = false) :
    (s.readBound b levels ch).bindChecks b = ((s.readBound b levels ch).drainBegun b).drainStep b st := by
  have hbay := State.readBound_on_bay (s := s) (b := b) (levels := levels) hdec
  have hdown : (s.readBound b levels ch).powerDown b = ((s.readBound b levels ch).drainBegun b).drainStep b st := by
    refine State.powerDown_steps (Slot.runs_of_idle ?_ _) (s.readBound_writeUnderWay b levels ch) ?_ hwait
    · rw [hbay]; exact hs
    · rw [hbay]; exact hcase
  rw [← hdown]
  refine State.bindChecks_drains (State.readBound_on_power hdec) ?_ ?_ ?_ ?_ ?_
  · rw [State.readBound_live, hf]; rfl
  · rw [State.readBound_live, hg]
  · rw [State.readBound_accepted, View.seed, View.ofLevels, hm]; rfl
  · rw [hbay]; exact hoff
  · rw [hdown, State.drainStep_bay, State.drainBegun_bay]; rfl

end On

/-! ## Entries into COOL (R34, R35, R138) -/

/-- A cooldown ends in RAMP, or in OFF where nothing is to be started. -/
theorem State.cooldownEnds_power (s : State) (b : BayId) :
    ((s.cooldownEnds b).bay b).power = .ramp ∨
      (((s.cooldownEnds b).bay b).power = .off ∧ (s.cooldownEnds b).autoStartReady b = false) := by
  have hup : ∀ t : State, ((t.beginPowerUp b).bay b).power = .ramp := fun t => by
    obtain ⟨tm, g, hbay⟩ := t.beginPowerUp_bay b
    rw [hbay]
  unfold State.cooldownEnds
  dsimp only
  split
  · exact .inl (hup _)
  · cases h : (s.abandonHeld b).autoStartReady b with
    | true =>
      rw [State.enterOff_starts h]
      exact .inl (hup _)
    | false =>
      rw [State.enterOff_rests h]
      exact .inr ⟨by rw [State.offTold_bay], (State.offTold_judges _ b).autoStartReady.trans h⟩

/-- An entry into COOL with a COOLDOWN starts its timer (R34). -/
theorem State.enterCool_timed {s : State} {b : BayId} {cause : Option StateCause}
    (hn : (s.profileOf b).cooldown ≠ 0) :
    s.enterCool b cause = ((s.coolTold b).enqueue (.bay b) ((s.bay b).slot.coolRecord cause)).startTimer b .cooldown
      (s.profileOf b).cooldown.toNat := by
  have hpos : (s.profileOf b).cooldown.toNat ≠ 0 := fun h => hn (BitVec.eq_of_toNat_eq h)
  rw [State.enterCool_eq, if_neg hpos]

theorem State.enterCool_cools {s : State} {b : BayId} {cause : Option StateCause}
    (hn : (s.profileOf b).cooldown ≠ 0) :
    ((s.enterCool b cause).bay b).power = .cool ∧
      ((s.enterCool b cause).bay b).idleNote = (s.bay b).idleNote := by
  obtain ⟨g, hg⟩ := s.coolTold_bay b
  rw [State.enterCool_timed hn, State.startTimer_bay, State.enqueue_bay, hg]
  exact ⟨rfl, rfl⟩

/-- An entry into COOL ends in COOL, or where COOLDOWN is 0 as the cooldown ends. -/
theorem State.enterCool_power (s : State) (b : BayId) (cause : Option StateCause) :
    ((s.enterCool b cause).bay b).power = .cool ∨ ((s.enterCool b cause).bay b).power = .ramp ∨
      (((s.enterCool b cause).bay b).power = .off ∧ (s.enterCool b cause).autoStartReady b = false) := by
  by_cases hn : (s.profileOf b).cooldown = 0
  · rw [State.enterCool_eq, if_pos (by rw [hn]; rfl)]
    exact .inr (State.cooldownEnds_power _ b)
  · exact .inl (State.enterCool_cools hn).1

/-- The records of an entry into COOL with a COOLDOWN and without a POWER_OFF in progress. -/
theorem State.enterCool_tells_idle {s : State} {b : BayId} {cause : Option StateCause}
    (hn : (s.profileOf b).cooldown ≠ 0) (hs : (s.bay b).slot.inProgress = false) :
    (s.enterCool b cause).TellsAs (s.enqueue (.bay b) (.state .cool (cause.getD .auto))) := by
  have hnotOff := Slot.runs_of_idle hs .powerOff
  have htold := s.coolTold_enqueue_tells b cause
  rw [Slot.coolDetails_of_not_off hnotOff, Slot.coolRecord_of_not_off hnotOff] at htold
  rw [State.enterCool_timed hn, Slot.coolRecord_of_not_off hnotOff]
  exact (State.startTimer_tells _ b _ _).trans htold

/-! ## Binding in COOL (R137, R138) -/

section Cool

variable {s : State} {b : BayId} {levels : Half} {ch : Chain} (hdec : ch.decided = .cool)

/-- The bay bound COOL, before its hunt and its sweep. -/
def State.boundCool (s : State) (b : BayId) (levels : Half) (ch : Chain) : State :=
  ((s.busIdle (busOf b)).boundTold b levels ch).enterCool b (some .adopt)

theorem State.boundCool_power :
    ((s.boundCool b levels ch).bay b).power = .cool ∨ ((s.boundCool b levels ch).bay b).power = .ramp ∨
      (((s.boundCool b levels ch).bay b).power = .off ∧ (s.boundCool b levels ch).autoStartReady b = false) :=
  State.enterCool_power _ b _

theorem State.boundTold_readBay :
    ((s.busIdle (busOf b)).boundTold b levels ch).bay b = (s.bay b).boundBy s.millis levels ch := by
  rw [State.boundTold_bay, State.busIdle_bay]
  rfl

theorem State.boundTold_profileOf :
    ((s.busIdle (busOf b)).boundTold b levels ch).profileOf b = s.profileOf b := by
  refine State.profileOf_of_eq ?_ ((State.boundTold_shell _ b levels ch).trans (s.busIdle_shell _))
  rw [State.boundTold_readBay]
  rfl

/-- The state from which a bay is bound COOL, as far as the entry into COOL reads it: the accepted image seeded, and
the LINK record told (R136, R137). -/
def State.seededTold (s : State) (b : BayId) (levels : Half) (ch : Chain) : State :=
  (s.modifyBay b fun y =>
    { y with accepted := (View.ofLevels levels ch.dirs).seed (s.bay b).accepted levels }).enqueue (.bay b)
    (.link .bound .bound)

theorem State.seededTold_tells :
    (s.enqueue (.bay b) (.link .bound .bound)).TellsAs (s.seededTold b levels ch) := by
  have hseeded : s.TellsAs (s.modifyBay b fun y =>
      { y with accepted := (View.ofLevels levels ch.dirs).seed (s.bay b).accepted levels }) := ⟨rfl, rfl, rfl⟩
  exact hseeded.enqueue _ _

/-- The bay enters COOL as the manual says (R34, R137). -/
theorem State.boundCool_entered :
    (s.seededTold b levels ch).CoolEntered (s.boundCool b levels ch) b (some .adopt) := by
  have hcools : ((s.busIdle (busOf b)).boundTold b levels ch).CoolsAs (s.seededTold b levels ch) b := by
    have hshell := (State.boundTold_shell (s.busIdle (busOf b)) b levels ch).trans (s.busIdle_shell _)
    refine ⟨?_, ?_, congrArg Shell.profiles hshell, congrArg Shell.classMap hshell⟩
    · exact (State.boundTold_tells _ b levels ch).trans
        (((s.busIdle_tells _).enqueue _ _).trans State.seededTold_tells)
    · rw [State.boundTold_readBay, State.seededTold, State.enqueue_bay, State.modifyBay_bay_self]
      rfl
  exact hcools.coolEntered (State.enterCool_entered _ b _)

/-- What the binding in COOL leaves of the target, unless the bay is started again (R41, R137). -/
theorem State.boundCool_target (h : ((s.boundCool b levels ch).bay b).power ≠ .ramp) :
    ((s.boundCool b levels ch).bay b).target = (s.bay b).corrected .off := by
  have hkept := State.enterCool_keptByCooldown ((s.busIdle (busOf b)).boundTold b levels ch) b (some .adopt)
  rw [State.boundTold_readBay] at hkept
  exact (hkept.target h).trans (Image.autoInd_eq _ _ _)

include hdec

/-- A bay bound COOL with a COOLDOWN stays in COOL, and notes the FAULT that it shows (R45, R137). -/
theorem State.boundCool_cools (hn : (s.profileOf b).cooldown ≠ 0) :
    ((s.boundCool b levels ch).bay b).power = .cool ∧
      ((s.boundCool b levels ch).bay b).idleNote = !levels.getLsbD 11 := by
  obtain ⟨hpower, hnote⟩ := State.enterCool_cools (s := (s.busIdle (busOf b)).boundTold b levels ch) (b := b)
    (cause := some .adopt) (by rw [State.boundTold_profileOf]; exact hn)
  rw [State.boundTold_readBay] at hnote
  refine ⟨hpower, hnote.trans ?_⟩
  simp [Bay.boundBy, Bay.bindFields, Live.ofLevels, hdec]

theorem State.readBound_cool_bay : (s.readBound b levels ch).bay b = (s.boundCool b levels ch).bay b := by
  rw [State.readBound, State.bindSettled_bay, hdec]
  rfl

theorem State.readBound_cool_tells : (s.readBound b levels ch).TellsAs (s.boundCool b levels ch) := by
  have htells := State.bindSettled_tells (s.busIdle (busOf b)) b levels ch
  rw [hdec] at htells
  exact htells

theorem State.readBound_cool_judges : (s.readBound b levels ch).JudgesAs (s.boundCool b levels ch) b := by
  have hbay := State.readBound_cool_bay (s := s) (b := b) (levels := levels) hdec
  refine .of_shell (congrArg Bay.config hbay) (congrArg Bay.accepted hbay) ?_
  rw [State.readBound_shell, State.boundCool, State.enterCool_shell, State.boundTold_shell, State.busIdle_shell]

/-- The checks of a bay bound COOL report FAULT at most: where COOLDOWN is 0, nothing is left to be started. -/
theorem State.readBound_cool_checks :
    (s.readBound b levels ch).bindChecks b = (s.readBound b levels ch).checkIdle b (!levels.getLsbD 11) := by
  have hpower := State.boundCool_power (s := s) (b := b) (levels := levels) (ch := ch)
  rw [← State.readBound_cool_bay hdec, ← (State.readBound_cool_judges hdec).autoStartReady] at hpower
  rw [State.bindChecks_idle, State.readBound_live]
  · rcases hpower with h | h | ⟨h, -⟩ <;> rw [h] <;> nofun
  · intro hoff
    rcases hpower with h | h | ⟨-, h⟩
    · exact absurd (h.symm.trans hoff) nofun
    · exact absurd (h.symm.trans hoff) nofun
    · exact h

/-- A bay bound COOL that shows FAULT reports it (R45, R138). -/
theorem State.readBound_cool_reports (hf : levels.getLsbD 11 = false) (hn : (s.profileOf b).cooldown ≠ 0) :
    (s.readBound b levels ch).bindChecks b = (s.readBound b levels ch).enqueueAll (.bay b) [.fault .fltInputIdle] := by
  rw [State.readBound_cool_checks hdec, State.checkIdle_of_idle, hf]
  · rfl
  · refine .inr ?_
    rw [State.readBound_cool_bay hdec]
    exact (State.boundCool_cools hdec hn).1

theorem State.readBound_cool_told (hn : (s.profileOf b).cooldown ≠ 0) (hs : (s.bay b).slot.inProgress = false) :
    (s.readBound b levels ch).TellsAs (s.enqueueAll (.bay b) [.link .bound .bound, .state .cool .adopt]) := by
  have hcool : (s.boundCool b levels ch).TellsAs
      (((s.busIdle (busOf b)).boundTold b levels ch).enqueue (.bay b) (.state .cool .adopt)) :=
    State.enterCool_tells_idle (by rw [State.boundTold_profileOf]; exact hn)
      (by rw [State.boundTold_readBay]; exact hs)
  exact (State.readBound_cool_tells hdec).trans (hcool.trans
    (((State.boundTold_tells _ b levels ch).trans ((s.busIdle_tells _).enqueue _ _)).enqueue _ _))

end Cool

/-! ## Binding in OFF (R137, R138) -/

section Off

variable {s : State} {b : BayId} {levels : Half} {ch : Chain} (hdec : ch.decided = .off)
include hdec

theorem State.readBound_off_bay :
    (s.readBound b levels ch).bay b = { (s.bay b).boundBy s.millis levels ch with
      power := .off, idleNote := !levels.getLsbD 11, target := (s.bay b).corrected .off,
      targetGen := (s.bay b).genAfter ((s.bay b).corrected .off) } := by
  rw [State.readBound_corrected_bay (by rw [hdec]; nofun)]
  simp [Bay.boundBy, Bay.bindFields, Live.ofLevels, Decided.power, Decided.indicator, hdec]

theorem State.readBound_off_power : ((s.readBound b levels ch).bay b).power = .off := by
  rw [State.readBound_off_bay hdec]

theorem State.readBound_off_tells :
    (s.readBound b levels ch).TellsAs (s.enqueueAll (.bay b) [.link .bound .bound, .state .off .adopt]) := by
  have htells := State.readBound_corrected_tells (s := s) (b := b) (levels := levels) (ch := ch) (by rw [hdec]; nofun)
  rw [hdec] at htells
  exact htells

/-- When a bay bound OFF is to be started (R30, R138). -/
theorem State.readBound_off_ready_iff :
    (s.readBound b levels ch).autoStartReady b = true ↔
      let seeded := (View.ofLevels levels ch.dirs).seed (s.bay b).accepted levels
      (s.bay b).config.autoOn = true ∧ seeded.present = true ∧ seeded.latchClosed = true ∧
        (seeded.moduleClass.bind fun c => s.classMap[c.toNat]) ≠ none := by
  rw [State.autoStartReady_iff, State.readBound_accepted, State.readBound_classProfile, State.readBound_off_bay hdec]
  rfl

theorem State.readBound_off_unready
    (h : let seeded := (View.ofLevels levels ch.dirs).seed (s.bay b).accepted levels
      (s.bay b).config.autoOn = false ∨ seeded.present = false ∨ seeded.latchClosed = false ∨
        ∀ m, seeded.moduleClass = some m → s.classMap[m.toNat] = none) :
    (s.readBound b levels ch).autoStartReady b = false := by
  refine Bool.eq_false_iff.mpr fun hready => ?_
  obtain ⟨hauto, hpresent, hlatch, hclass⟩ := (State.readBound_off_ready_iff hdec).mp hready
  rcases h with h | h | h | h
  · exact Bool.false_ne_true (h.symm.trans hauto)
  · exact Bool.false_ne_true (h.symm.trans hpresent)
  · exact Bool.false_ne_true (h.symm.trans hlatch)
  · exact hclass (Option.bind_eq_none_iff.mpr h)

/-- A bay bound OFF that is not to be started reports FAULT at most (R45, R138). -/
theorem State.readBound_off_rests (hready : (s.readBound b levels ch).autoStartReady b = false) :
    (s.readBound b levels ch).bindChecks b =
      (s.readBound b levels ch).enqueueAll (.bay b) (if levels.getLsbD 11 then [] else [.fault .fltInputIdle]) := by
  have hpower := State.readBound_off_power (s := s) (b := b) (levels := levels) hdec
  rw [State.bindChecks_idle (hpower ▸ nofun) fun _ => hready, State.readBound_live,
    State.checkIdle_of_idle (.inl hpower)]
  cases levels.getLsbD 11 <;> rfl

end Off

/-- Settles O50: one check after binding for each decided power state and what the read shows. -/
theorem bindingActs : Obligations.BindingActs := by
  intro n e a ch input output direction s hw hk hn hc x hunt corrected written binds seeded
  have hbinds : ∀ {u : State} {ds : List Detail} {P : State → Prop},
      (s.readBound e.bay input ch).bindChecks e.bay = u →
      u.TellsAs (s.enqueueAll (.bay e.bay) (.link .bound .bound :: ds)) →
      (∀ t : State, t.bay e.bay = u.bay e.bay → (t.engine n).queue = (u.engine n).queue → P t) → binds ds P :=
    fun hu htells hP => by
      obtain ⟨t, hexec, hevents, hbay, hqueue⟩ :=
        exec_seedingReadComplete_tells hw hk hn hc hu htells output direction
      subst hn
      exact ⟨t, hexec, hevents, hP t hbay hqueue⟩
  subst hn
  refine ⟨fun hdec hf hg hm => ?_, fun hdec h hs => ?_, fun hdec hf hg hm hoff hs st hcase hne h1 h2 => ?_,
    fun hdec hf => ?_, fun hdec hf hcool hs => ?_, fun hdec h => ?_, fun hdec hauto hp hl m hclass hmap => ?_⟩
  · refine hbinds (State.readBound_on_rests hdec hf hg hm) (State.readBound_on_tells hdec) fun t ht hqueue => ?_
    rw [ht, State.readBound_on_bay hdec]
    refine ⟨rfl, rfl, rfl, rfl, rfl, fun hne henable => ?_⟩
    rw [hqueue]
    exact State.readBound_corrected_hasWrite (by rw [hdec]; nofun) henable (by rw [hdec]; exact hne)
  · refine hbinds (State.readBound_on_faults hdec h) (State.readBound_on_faultTold hdec hs _) fun t ht hqueue => ?_
    obtain ⟨sl, hbay⟩ := State.readBound_on_faulted (s := s) (b := e.bay) (levels := input) hdec
      (if input.getLsbD 11 then .pgoodLost else .fltInput)
    rw [ht, hbay]
    refine ⟨rfl, rfl, rfl, faultUpdate_corrected x .on, rfl, fun hp henable => ?_⟩
    rw [hqueue]
    exact State.readBound_on_urgent hdec hp henable _
  · refine hbinds (State.readBound_on_drains hdec hf hg hm hoff hs hcase (State.readBound_on_waits hdec hne h1 h2))
      ((State.drainStep_tells _ _ _).trans ((State.drainBegun_tells _ _).trans (State.readBound_on_tells hdec)))
      fun t ht _ => ?_
    rw [ht, State.drainStep_bay, State.drainBegun_bay, State.readBound_on_bay hdec]
    exact ⟨rfl, rfl, rfl, drainUpdate_pwrEn _ _ _ _, drainUpdate_clkEn _ _ _ _, drainUpdate_released _ _ _ _⟩
  · have hrests : (s.readBound e.bay input ch).bindChecks e.bay = s.readBound e.bay input ch := by
      rw [State.readBound_cool_checks hdec, hf]
      exact State.checkIdle_quiet
    obtain ⟨t, hexec, hbay, -, htells, -, -⟩ := exec_seedingReadComplete_answers hw hk rfl hc hrests output direction
    have hcool := (hbay e.bay).trans (State.readBound_cool_bay hdec)
    refine ⟨t, hexec, ⟨s.boundCool e.bay input ch, State.boundCool_entered, hcool.symm, ?_⟩, ?_⟩
    · exact (htells.trans ((State.readBound_cool_tells hdec).tellHunt _ _)).events
    · rw [hcool]
      exact State.boundCool_target
  · have hbay := State.readBound_cool_bay (s := s) (b := e.bay) (levels := input) hdec
    obtain ⟨hpower, hnote⟩ := State.boundCool_cools (s := s) (b := e.bay) (levels := input) hdec hcool
    refine hbinds (State.readBound_cool_reports hdec hf hcool)
      ((State.readBound_cool_told hdec hcool hs).enqueueAll _ _) fun t ht _ => ?_
    rw [ht, State.enqueueAll_bay, hbay]
    exact ⟨hpower, by rw [hnote, hf]; rfl, State.boundCool_target (hpower ▸ nofun)⟩
  · have htold := (State.readBound_off_tells (s := s) (b := e.bay) (levels := input) hdec).enqueueAll (.bay e.bay)
      (if input.getLsbD 11 then [] else [.fault .fltInputIdle])
    refine hbinds (State.readBound_off_rests hdec (State.readBound_off_unready hdec h)) ?_ fun t ht hqueue => ?_
    · rw [← State.enqueueAll_append] at htold
      cases hf : input.getLsbD 11 <;> rw [hf] at htold <;> exact htold
    · rw [ht, State.enqueueAll_bay, State.readBound_off_bay hdec]
      refine ⟨rfl, rfl, rfl, fun hne henable => ?_⟩
      rw [hqueue, State.enqueueAll_engine]
      exact State.readBound_corrected_hasWrite (by rw [hdec]; nofun) henable (by rw [hdec]; exact hne)
  · have hready : (s.readBound e.bay input ch).autoStartReady e.bay = true :=
      (State.readBound_off_ready_iff hdec).mpr ⟨hauto, hp, hl, by rw [hclass]; exact hmap⟩
    obtain ⟨tm, g, hup⟩ := (s.readBound e.bay input ch).beginPowerUp_bay e.bay
    refine hbinds (State.bindChecks_starts (State.readBound_off_power hdec) hready)
      ((State.beginPowerUp_tells _ _).trans (State.readBound_off_tells hdec)) fun t ht _ => ?_
    rw [ht, hup, State.readBound_classProfile, hclass]
    exact ⟨rfl, rfl, by rw [rampUpdate_eq], rfl⟩

end Sys2Proof.Machine

/-! # Takes (R153 to R155) -/

namespace Sys2Proof.Machine

/-! ## A take (R153, R154) -/

theorem EventQueue.take_lineCount_le (q : EventQueue) (win : Fin 5) (wants : Record → Bool) (k : Option LineId) :
    (q.take win wants).lineCount k ≤ q.lineCount k :=
  List.eraseP_sublist.countP_le

/-- What a take does: it gives the line of the taken record a cause when it leaves records of that line, the third
cause of a pulse (R165). -/
theorem State.takeRecord_cases (s : State) (win : Fin 5) (wants : Record → Bool) :
    (∃ k, s.events.takenLine wants = some k ∧ 0 < (s.events.take win wants).lineCount (some k) ∧
      s.takeRecord win wants = { s with events := s.events.take win wants }.modifyLine k Line.cause) ∨
    ((∀ k, s.events.takenLine wants = some k → ¬ 0 < (s.events.take win wants).lineCount (some k)) ∧
      s.takeRecord win wants = { s with events := s.events.take win wants }) := by
  unfold State.takeRecord
  cases hk : s.events.takenLine wants with
  | none => exact .inr ⟨nofun, rfl⟩
  | some k =>
    by_cases hc : 0 < (s.events.take win wants).lineCount (some k)
    · exact .inl ⟨k, rfl, hc, if_pos hc⟩
    · exact .inr ⟨fun j hj => Option.some.inj hj ▸ hc, if_neg hc⟩

@[simp] theorem State.takeRecord_events (s : State) (win : Fin 5) (wants : Record → Bool) :
    (s.takeRecord win wants).events = s.events.take win wants := by
  obtain ⟨k, -, -, h⟩ | ⟨-, h⟩ := s.takeRecord_cases win wants
  · rw [h]; rfl
  · rw [h]

theorem State.takeRecord_line (s : State) (win : Fin 5) (wants : Record → Bool) (j : LineId) :
    (s.takeRecord win wants).lines[j] =
      if s.events.takenLine wants = some j ∧ 0 < (s.events.take win wants).lineCount (some j)
      then (s.lines[j]).cause else s.lines[j] := by
  obtain ⟨k, hk, hc, h⟩ | ⟨hno, h⟩ := s.takeRecord_cases win wants
  · by_cases hjk : j = k
    · subst hjk
      rw [if_pos ⟨hk, hc⟩, h, State.modifyLine_line_self]
    · rw [if_neg fun hj => hjk (Option.some.inj (hj.1.symm.trans hk)), h, State.modifyLine_line_ne _ _ _ _ hjk]
  · rw [if_neg fun hj => hno j hj.1 hj.2, h]

/-- A take moves nothing but the Event Queue and the lines. -/
theorem State.takeRecord_frame (s : State) (win : Fin 5) (wants : Record → Bool) :
    { s.takeRecord win wants with events := s.events, lines := s.lines } = s := by
  obtain ⟨k, -, -, h⟩ | ⟨-, h⟩ := s.takeRecord_cases win wants
  · rw [h]; rfl
  · rw [h]

/-- The record that a line's window takes is of that line. -/
theorem EventQueue.takenLine_of_line (q : EventQueue) (k j : LineId)
    (h : q.takenLine (fun r => r.line = some k) = some j) : j = k := by
  obtain ⟨r, hr, hj⟩ := Option.bind_eq_some_iff.mp h
  have hk := List.find?_some hr
  exact Option.some.inj (hj.symm.trans (of_decide_eq_true hk))

/-- A line's window that leaves a record of its line has taken one. -/
theorem EventQueue.takenLine_of_left (q : EventQueue) (win : Fin 5) (k : LineId)
    (h : 0 < (q.take win fun r : Record => r.line = some k).lineCount (some k)) :
    q.takenLine (fun r => r.line = some k) = some k := by
  obtain ⟨r, hr, hk⟩ := List.countP_pos_iff.mp (h.trans_le (q.take_lineCount_le win _ _))
  have hsome : (q.records.find? fun r => r.line = some k).isSome := List.find?_isSome.mpr ⟨r, hr, hk⟩
  obtain ⟨r', hf⟩ := Option.isSome_iff_exists.mp hsome
  have hk' := List.find?_some hf
  rw [EventQueue.takenLine, hf]
  exact of_decide_eq_true hk'

/-- The ANY window takes the oldest record, so the line it is told of is that record's. -/
theorem EventQueue.takenLine_any (q : EventQueue) (j : LineId) :
    q.takenLine (fun _ => true) = some j ↔ q.records.head?.map Record.line = some (some j) := by
  unfold EventQueue.takenLine
  cases q.records <;> simp

theorem EventQueue.take_any (q : EventQueue) :
    q.take 4 (fun _ => true) =
      { q with records := q.records.tail, windows := q.windows.set 4 q.records.head? } := by
  unfold EventQueue.take
  cases q.records <;> simp

/-! ## The TAKE word (R153 to R155) -/

theorem State.writeTake_line (s : State) {w : Word} {k : LineId} (h : (fieldOf w 0 3).toNat = k.val) :
    s.writeTake w = s.takeRecord ⟨k.val, by omega⟩ fun r => r.line = some k := by
  unfold State.writeTake
  dsimp only
  rw [dif_pos (h ▸ k.isLt)]
  simp only [h]

theorem State.writeTake_any (s : State) {w : Word} (h : (fieldOf w 0 3).toNat = 4) :
    s.writeTake w = s.takeRecord 4 fun _ => true := by
  unfold State.writeTake
  dsimp only
  rw [dif_neg (by omega), if_pos (BitVec.eq_of_toNat_eq h)]

theorem State.writeTake_refused (s : State) {w : Word} (h : 4 < (fieldOf w 0 3).toNat) :
    s.writeTake w = s.setConfigRefused := by
  unfold State.writeTake
  dsimp only
  rw [dif_neg (by omega), if_neg fun he => by rw [he] at h; exact absurd h (by decide)]

/-- A take adds to no count, so the Router is told of nothing but what the take itself gives it. -/
theorem State.wordEvent_take {s : State} {w : Word} {win : Fin 5} {wants : Record → Bool}
    (ht : s.takesWord Reg.take.addr = true)
    (hw : (s.afterWord Reg.take.addr).writeTake w = (s.afterWord Reg.take.addr).takeRecord win wants) :
    s.wordEvent Reg.take.addr (fun t => t.writeTake w) = .next ((s.afterWord Reg.take.addr).takeRecord win wants) := by
  rw [State.wordEvent_taken s _ _ ht, hw]
  refine congrArg _ (State.noticeAppends_of_count_le _ _ fun k => ?_)
  rw [State.takeRecord_events]
  exact s.events.take_lineCount_le win wants _

/-- Settles O22: the word is one take on the window it names, or a refused word. -/
theorem takes : Obligations.Takes := by
  refine ⟨fun k w s ht hn => ?_, fun w s ht hn => ?_, fun w s ht hn => ?_⟩
  · refine ⟨_, State.wordEvent_take ht (State.writeTake_line _ hn), State.takeRecord_events .., fun j => ?_,
      State.takeRecord_frame (s.afterWord _) _ _⟩
    rw [State.takeRecord_line, State.takeRecord_events]
    refine if_congr ⟨fun ⟨hj, hc⟩ => ?_, fun ⟨hj, hc⟩ => ?_⟩ rfl rfl
    · have hj := EventQueue.takenLine_of_line _ k j hj
      exact ⟨hj, hj ▸ hc⟩
    · subst hj
      exact ⟨EventQueue.takenLine_of_left _ _ _ hc, hc⟩
  · refine ⟨_, State.wordEvent_take ht (State.writeTake_any _ hn),
      (State.takeRecord_events ..).trans (EventQueue.take_any _), fun j => ?_,
      State.takeRecord_frame (s.afterWord _) _ _⟩
    rw [State.takeRecord_line, State.takeRecord_events]
    exact if_congr (and_congr_left' (EventQueue.takenLine_any _ j)) rfl rfl
  · have hrefused : s.wordEvent Reg.take.addr (fun t => t.writeTake w) =
        .next (s.afterWord Reg.take.addr).setConfigRefused := by
      have howner := (s.afterWord Reg.take.addr).writeTake_refused hn
      rw [s.wordEvent_quiet _ _ ht (by rw [howner]; rfl), howner]
    exact ⟨hrefused, hrefused⟩

end Sys2Proof.Machine

/-! # What the work of an event tells

Whatever an event does to bays and buses, to the Event Queue it does nothing but enqueue, and it leaves the lines to
the Router, which is told at the end of the event. -/

namespace Sys2Proof.Machine

/-- Queue `q'` is what enqueues have made of queue `q` (R146 to R149). -/
def EventQueue.Grows : EventQueue → EventQueue → Prop :=
  Relation.ReflTransGen fun q q' => ∃ tag now src d, q' = q.enqueue tag now src d

/-- Enqueues keep the form of the queue (R145, R147). -/
theorem EventQueue.Grows.wf {q q' : EventQueue} (h : q.Grows q') (hq : q.Wf) : q'.Wf := by
  induction h with
  | refl => exact hq
  | tail _ hstep ih =>
    obtain ⟨tag, now, src, d, rfl⟩ := hstep
    exact EventQueue.enqueue_wf _ tag now src d ih

/-- From `s` to `t` records have been enqueued, and nothing else has happened to the Event Queue or to the lines, whose
pulse causes the Router gives at the end of the event (R165). -/
structure State.Reports (s t : State) : Prop where
  grows : s.events.Grows t.events
  lines : t.lines = s.lines

namespace State.Reports

variable {s t u : State}

theorem refl (s : State) : s.Reports s := ⟨.refl, rfl⟩

theorem trans (h : s.Reports t) (h' : t.Reports u) : s.Reports u :=
  ⟨Relation.ReflTransGen.trans h.grows h'.grows, h'.lines.trans h.lines⟩

theorem ite {c : Prop} {_ : Decidable c} (h : s.Reports t) (h' : s.Reports u) : s.Reports (if c then t else u) := by
  split
  · exact h
  · exact h'

/-- A change to neither queue nor lines. -/
theorem quiet (h : s.Reports t) (he : u.events = t.events := by rfl) (hl : u.lines = t.lines := by rfl) :
    s.Reports u :=
  ⟨he ▸ h.grows, hl.trans h.lines⟩

theorem foldl {α : Type} {f : State → α → State} (hf : ∀ (t : State) a, t.Reports (f t a)) (h : s.Reports t)
    (l : List α) : s.Reports (l.foldl f t) := by
  induction l generalizing t with
  | nil => exact h
  | cons a l ih => exact ih (h.trans (hf t a))

/-! ## The shared operations -/

theorem enqueue {src : Source} {d : Detail} (h : s.Reports t) : s.Reports (t.enqueue src d) :=
  ⟨h.grows.tail ⟨_, _, _, _, rfl⟩, h.lines⟩

theorem enqueueAll {src : Source} (ds : List Detail) (h : s.Reports t) : s.Reports (t.enqueueAll src ds) :=
  foldl (fun t _ => (refl t).enqueue) h ds

theorem modifyBay {b : BayId} {f : Bay → Bay} (h : s.Reports t) : s.Reports (t.modifyBay b f) := h.quiet

theorem modifyEngine {n : BusId} {f : Engine → Engine} (h : s.Reports t) : s.Reports (t.modifyEngine n f) := h.quiet

theorem setConfigRefused (h : s.Reports t) : s.Reports t.setConfigRefused := h.quiet

theorem answerGlobal {code : BitVec 4} {r : CommandResult} {tag : Byte} (h : s.Reports t) :
    s.Reports (t.answerGlobal code r tag) := h.quiet

theorem requestRead {b : BayId} {w : Waiters} (h : s.Reports t) : s.Reports (t.requestRead b w) :=
  .ite h.modifyEngine h

theorem requestWrite {b : BayId} {u : Bool} (h : s.Reports t) : s.Reports (t.requestWrite b u) :=
  .ite h.modifyEngine h

theorem requestDiscovery {b : BayId} {k : TxKind} {c : Option Written} (h : s.Reports t) :
    s.Reports (t.requestDiscovery b k c) :=
  .ite h.modifyEngine h

theorem updateTarget {b : BayId} {f : Image → Image} {u : Bool} (h : s.Reports t) :
    s.Reports (t.updateTarget b f u) :=
  .ite h h.modifyBay.requestWrite

theorem completeCommand {b : BayId} {r : CommandResult} (h : s.Reports t) : s.Reports (t.completeCommand b r) := by
  refine .ite ?_ h
  split
  · exact h.modifyBay
  · exact h.modifyBay.enqueue

/-! ## Sweeps, departures and hunts (R7, R87 to R89, R112, R127 to R130) -/

theorem startSweep {n : BusId} (h : s.Reports t) : s.Reports (t.startSweep n) := by
  unfold State.startSweep
  exact (foldl (fun t _ => (refl t).requestRead) h _).modifyEngine

theorem evalSweep {n : BusId} (h : s.Reports t) : s.Reports (t.evalSweep n) := .ite h.startSweep h

theorem sweepLeave {b : BayId} (h : s.Reports t) : s.Reports (t.sweepLeave b) := by
  unfold State.sweepLeave
  split
  · exact h
  · exact .ite h.modifyEngine.evalSweep h.modifyEngine

theorem dropEntries {b : BayId} (h : s.Reports t) : s.Reports (t.dropEntries b) :=
  .ite h.modifyEngine.sweepLeave h.modifyEngine

theorem depart {b : BayId} {dest : LinkState} {cause : LinkCause} (h : s.Reports t) :
    s.Reports (t.depart b dest cause) :=
  h.modifyBay.completeCommand.dropEntries.enqueue.enqueue

theorem huntLeave {b : BayId} (h : s.Reports t) : s.Reports (t.huntLeave b) := h.modifyEngine

theorem endHunt {n : BusId} (h : s.Reports t) : s.Reports (t.endHunt n) := by
  unfold State.endHunt
  split
  · exact h
  · exact .ite h.enqueue.modifyEngine h

theorem huntReach {b : BayId} (h : s.Reports t) : s.Reports (t.huntReach b) :=
  .ite h.modifyEngine.modifyBay.requestDiscovery h

theorem startHunt {n : BusId} (h : s.Reports t) : s.Reports (t.startHunt n) :=
  (foldl (fun t _ => (refl t).huntReach) h.modifyEngine _).endHunt

theorem huntBound {b : BayId} (h : s.Reports t) : s.Reports (t.huntBound b) := .ite h.modifyEngine.huntLeave h

/-! ## A whole bus (R122 to R124) -/

theorem bayDown {failing : Bool} {b : BayId} (h : s.Reports t) : s.Reports (t.bayDown failing b) := by
  unfold State.bayDown
  extract_lets cause
  split
  case h_1 => exact h.depart
  case h_2 => exact h.modifyBay.huntLeave.enqueue
  case h_3 =>
    exact .ite (.ite h.modifyBay.huntLeave.enqueue h.modifyBay.huntLeave) h.modifyBay.huntLeave.enqueue
  case h_4 => exact h
  case h_5 => exact h

theorem busDown {n : BusId} {failing : Bool} (h : s.Reports t) : s.Reports (t.busDown n failing) :=
  (foldl (fun t _ => (refl t).bayDown) h.modifyEngine.enqueue _).evalSweep.endHunt

/-! ## Power-up and cooldown (R24 to R30, R34, R35) -/

theorem startTimer {b : BayId} {p : SeqPurpose} {n : Nat} (h : s.Reports t) : s.Reports (t.startTimer b p n) :=
  h.modifyBay

theorem rampWaitEnd {b : BayId} (h : s.Reports t) : s.Reports (t.rampWaitEnd b) := by
  unfold State.rampWaitEnd
  dsimp only
  split
  · exact h.startTimer
  · exact h.startTimer.requestRead

theorem beginPowerUp {b : BayId} (h : s.Reports t) : s.Reports (t.beginPowerUp b) :=
  .ite h.modifyBay.updateTarget.modifyBay.rampWaitEnd h.modifyBay.updateTarget.modifyBay

theorem autoStart {b : BayId} (h : s.Reports t) : s.Reports (t.autoStart b) := .ite h.beginPowerUp h

theorem endOfRamp {b : BayId} (h : s.Reports t) : s.Reports (t.endOfRamp b) :=
  .ite h.updateTarget.modifyBay.startTimer h.updateTarget.modifyBay

theorem enterOn {b : BayId} (h : s.Reports t) : s.Reports (t.enterOn b) :=
  (ite h.modifyBay.completeCommand h.modifyBay).enqueue

theorem releaseReset {b : BayId} (h : s.Reports t) : s.Reports (t.releaseReset b) :=
  .ite h.updateTarget.modifyBay.enterOn h.updateTarget.modifyBay

theorem enterOff {b : BayId} (h : s.Reports t) : s.Reports (t.enterOff b) := h.modifyBay.enqueue.autoStart

theorem abandonHeld {b : BayId} (h : s.Reports t) : s.Reports (t.abandonHeld b) := .ite h.modifyBay.completeCommand h

theorem cooldownEnds {b : BayId} (h : s.Reports t) : s.Reports (t.cooldownEnds b) :=
  .ite h.abandonHeld.beginPowerUp h.abandonHeld.enterOff

theorem enterCool {b : BayId} {cause : Option StateCause} (h : s.Reports t) : s.Reports (t.enterCool b cause) := by
  unfold State.enterCool
  extract_lets auto s1 s2 s3 commanded s4 n s5 s6
  have h3 : s.Reports s3 := h.modifyBay.updateTarget.modifyBay
  have h4 : s.Reports s4 := .ite h3.completeCommand h3
  have h5 : s.Reports s5 := .ite h4.abandonHeld h4
  have h6 : s.Reports s6 := h5.enqueue
  exact .ite h6.cooldownEnds h6.startTimer

/-! ## Power-down and faults (R31 to R33, R42 to R46) -/

theorem drainStep {b : BayId} {st : SeqStep} (h : s.Reports t) : s.Reports (t.drainStep b st) := by
  unfold State.drainStep
  exact h.updateTarget.modifyBay

theorem drainDone {b : BayId} (h : s.Reports t) : s.Reports (t.drainDone b) := by
  unfold State.drainDone
  exact h.updateTarget.enterCool

theorem drainCompute {fuel : Nat} {b : BayId} (h : s.Reports t) : s.Reports (State.drainCompute fuel t b) := by
  induction fuel using Nat.strongRecOn generalizing t with
  | ind fuel ih =>
    unfold State.drainCompute
    split
    · exact h.drainDone
    · refine .ite (.ite h.drainStep.enterCool (.ite ?_ h.drainStep.startTimer)) h.drainStep
      split
      · exact h.drainStep
      · next k => exact ih k (Nat.lt_succ_self k) h.drainStep

theorem drainWaitEnd {b : BayId} {st : SeqStep} (h : s.Reports t) : s.Reports (t.drainWaitEnd b st) :=
  .ite h.enterCool (.ite h.drainCompute h.startTimer)

theorem powerDown {b : BayId} (h : s.Reports t) : s.Reports (t.powerDown b) :=
  .trans (ite h.completeCommand h).modifyBay (.ite (refl _) (refl _).drainCompute)

theorem takeFault {b : BayId} {kind : FaultKind} (h : s.Reports t) : s.Reports (t.takeFault b kind) :=
  (ite h.updateTarget.modifyBay.completeCommand h.updateTarget.modifyBay).enqueue.enqueue

theorem judgeLive {b : BayId} {before : Bool} (h : s.Reports t) : s.Reports (t.judgeLive b before) := by
  have hnoted : s.Reports
      (if (t.bay b).live.fault then t else t.modifyBay b fun x => { x with idleNote := false }) :=
    .ite h h.modifyBay
  unfold State.judgeLive
  dsimp only
  split
  case h_1 => exact .ite hnoted.takeFault (.ite hnoted.endOfRamp hnoted)
  case h_2 | h_3 => exact .ite hnoted.takeFault (.ite hnoted hnoted.takeFault)
  case h_4 => exact .ite hnoted.takeFault hnoted
  case h_5 => exact .ite (.trans (.ite hnoted hnoted.modifyBay) (.ite (refl _).completeCommand (refl _))) hnoted
  case h_6 | h_7 => exact .ite hnoted.modifyBay.enqueue hnoted
  case h_8 => exact hnoted

/-! ## A completed write (R22, R60, R116) -/

theorem sequencerTest {b : BayId} (h : s.Reports t) : s.Reports (t.sequencerTest b) := by
  unfold State.sequencerTest
  dsimp only
  split
  · exact .ite h.rampWaitEnd h
  · exact .ite (.ite h.enterOn h.startTimer) h
  · split
    · exact h.drainCompute
    · exact .ite h.drainWaitEnd h
  · exact h

theorem awaitedTest {b : BayId} (h : s.Reports t) : s.Reports (t.awaitedTest b) := by
  unfold State.awaitedTest
  dsimp only
  split
  · exact h
  · exact .ite (.ite h.modifyBay.completeCommand.enterCool h.completeCommand) h

theorem writeDone {e : Entry} (h : s.Reports t) : s.Reports (t.writeDone e) := h.modifyBay.awaitedTest.sequencerTest

/-! ## Debounce, acceptance and a completed read (R73 to R91) -/

theorem automaticOff {b : BayId} {e : Bool} (h : s.Reports t) : s.Reports (t.automaticOff b e) := .ite h.powerDown h

theorem acceptView {b : BayId} {v : View} {levels : Half} (h : s.Reports t) :
    s.Reports (t.acceptView b v levels) := by
  have htold : s.Reports (t.acceptTold b v levels) := h.modifyBay.enqueueAll _
  rw [State.acceptView_eq]
  exact .trans (.ite htold (.ite htold.autoStart htold.automaticOff))
    (.ite (refl _) (.ite (refl _).autoStart (refl _).automaticOff))

theorem debounce {b : BayId} {v : View} {levels : Half} {confirming : Bool} (h : s.Reports t) :
    s.Reports (t.debounce b v levels confirming) := by
  unfold State.debounce
  dsimp only
  split
  · exact .ite h h.modifyBay
  · split
    · exact .ite h (.ite h.modifyBay h.modifyBay)
    · exact .ite (.ite h.acceptView h) (.ite h.modifyBay.modifyEngine h.modifyBay.modifyEngine)

theorem answerWaiters {b : BayId} {w : Waiters} (h : s.Reports t) : s.Reports (t.answerWaiters b w) :=
  .trans (.ite h.completeCommand h) (.ite (refl _).sweepLeave (refl _))

theorem readDone {b : BayId} {w : Waiters} {levels output direction : Half} (h : s.Reports t) :
    s.Reports (t.readDone b w levels output direction) :=
  (ite (ite h.modifyBay.depart.requestDiscovery
    (.trans h.modifyBay.judgeLive (.ite (refl _).debounce (refl _)))) h.modifyBay).answerWaiters

theorem confirmCandidate {b : BayId} (h : s.Reports t) : s.Reports (t.confirmCandidate b) := h.modifyBay.requestRead

theorem pollReads {n : BusId} (h : s.Reports t) : s.Reports (t.pollReads n) :=
  foldl (fun t _ => (refl t).requestRead) h _

/-! ## Discovery (R129 to R139) -/

theorem probeFound {b : BayId} (h : s.Reports t) : s.Reports (t.probeFound b) :=
  h.modifyEngine.modifyBay.requestDiscovery

theorem probeNotFound {b : BayId} (h : s.Reports t) : s.Reports (t.probeNotFound b) :=
  (ite h.modifyBay.huntLeave.enqueue h.modifyBay.huntLeave).endHunt

theorem identJudged {b : BayId} {ident : Byte} (h : s.Reports t) : s.Reports (t.identJudged b ident) :=
  .ite h.requestDiscovery h.modifyBay.huntLeave.enqueue.endHunt

theorem setupFailed {b : BayId} (h : s.Reports t) : s.Reports (t.setupFailed b) :=
  h.modifyBay.enqueue.huntLeave.endHunt

theorem readbackJudged {b : BayId} {r : Regs} (h : s.Reports t) : s.Reports (t.readbackJudged b r) := by
  unfold State.readbackJudged
  dsimp only
  split
  · exact h.modifyBay.requestDiscovery
  · exact h.modifyBay.requestDiscovery

theorem forceSafeDone {b : BayId} {c : Option Written} (h : s.Reports t) : s.Reports (t.forceSafeDone b c) :=
  h.modifyBay.requestDiscovery

theorem bindPower {b : BayId} {dec : Decided} (h : s.Reports t) : s.Reports (t.bindPower b dec) := by
  cases dec with
  | cool => exact h.enterCool
  | on => exact h.updateTarget.enqueue
  | off => exact h.updateTarget.enqueue

theorem bindChecks {b : BayId} (h : s.Reports t) : s.Reports (t.bindChecks b) := by
  unfold State.bindChecks
  extract_lets lv s1 s2 s3
  have h1 : s.Reports s1 := .ite h.takeFault h
  have h2 : s.Reports s2 := .ite h1.powerDown h1
  have h3 : s.Reports s3 := h2.autoStart
  exact .ite h3.enqueue h3

theorem bind {b : BayId} {levels : Half} {ch : Chain} (h : s.Reports t) : s.Reports (t.bind b levels ch) := by
  unfold State.bind
  extract_lets s1 s2 s3 s4 s5 s6 s7
  have hseeded : s.Reports s1 := h.modifyBay.modifyBay
  have hbound : s.Reports s4 := hseeded.modifyBay.enqueue.bindPower
  exact hbound.huntBound.evalSweep.bindChecks.endHunt

/-! ## Transactions that begin and end (R113 to R122) -/

theorem beginNext {n : BusId} (h : s.Reports t) : s.Reports (t.beginNext n) := by
  unfold State.beginNext
  dsimp only
  split
  · exact .ite h.modifyEngine h
  · exact h

theorem busIdle {n : BusId} (h : s.Reports t) : s.Reports (t.busIdle n) := h.modifyEngine

theorem endIgnored {n : BusId} {tx : Tx} (h : s.Reports t) : s.Reports (t.endIgnored n tx) :=
  .ite h.busIdle.sweepLeave h.busIdle

theorem completeTx {n : BusId} {k : TxKind} {handed : State → Entry → State}
    (hh : ∀ (t : State) e, t.Reports (handed t e)) (h : s.Reports t) : s.Reports (t.completeTx n k handed) := by
  unfold State.completeTx
  split
  · exact h
  · exact .ite (.ite h.endIgnored (h.busIdle.trans (hh _ _))) h

theorem exhausted {e : Entry} (h : s.Reports t) : s.Reports (t.exhausted e) := by
  unfold State.exhausted
  split
  · exact h.probeNotFound
  · exact h.setupFailed
  · exact .ite h.depart.sweepLeave h.depart
  · exact h.depart

theorem countFailure {tx : Tx} (h : s.Reports t) : s.Reports (t.countFailure tx) := .ite h h.modifyBay

theorem nack {n : BusId} (h : s.Reports t) : s.Reports (t.nack n) := by
  unfold State.nack
  split
  · exact h
  · exact .ite h.endIgnored (.ite h.countFailure.modifyEngine h.countFailure.busIdle.exhausted)

theorem attemptTimeout {n : BusId} {tx : Tx} {a : Nat} (h : s.Reports t) : s.Reports (t.attemptTimeout n tx a) :=
  h.countFailure.modifyEngine

theorem passSucceeds {n : BusId} {tx : Tx} {a : Nat} (h : s.Reports t) : s.Reports (t.passSucceeds n tx a) :=
  .ite h.endIgnored (.ite h.modifyEngine h.busIdle.exhausted)

theorem passFails {n : BusId} {tx : Tx} {a p : Nat} (h : s.Reports t) : s.Reports (t.passFails n tx a p) :=
  .ite h.modifyEngine h.busDown

/-! ## Bay commands (R51 to R69) -/

theorem await {b : BayId} {g : Option Half} (h : s.Reports t) : s.Reports (t.await b g) := h.modifyBay.awaitedTest

theorem outputEffect {b : BayId} {f : Image → Image} (h : s.Reports t) : s.Reports (t.outputEffect b f) :=
  h.updateTarget.await

theorem powerOnEffect {b : BayId} (h : s.Reports t) : s.Reports (t.powerOnEffect b) := by
  unfold State.powerOnEffect
  split
  · exact h.beginPowerUp
  · exact h.modifyBay
  · exact h.modifyBay
  · exact h

theorem overtakePowerOn {b : BayId} (h : s.Reports t) : s.Reports (t.overtakePowerOn b) :=
  .ite h.modifyBay.completeCommand h

theorem powerOffEffect {b : BayId} {held : Bool} (h : s.Reports t) : s.Reports (t.powerOffEffect b held) := by
  unfold State.powerOffEffect
  split
  case h_1 | h_2 | h_3 => exact h.powerDown
  case h_4 => exact .ite h.completeCommand h
  case h_5 | h_6 => exact h.completeCommand
  case h_7 => exact h.await
  case h_8 => exact h

theorem firstEffect {b : BayId} {c : BayCommand} {args : CommandArgs} {held : Bool} (h : s.Reports t) :
    s.Reports (t.firstEffect b c args held) := by
  cases c with
  | powerOn => exact h.powerOnEffect
  | powerOff => exact h.powerOffEffect
  | setInd => exact h.outputEffect
  | lock => exact h.outputEffect
  | unlock => exact h.outputEffect
  | setAux => exact h.outputEffect
  | clearFault => exact h.await
  | refresh => exact h.requestRead

theorem refuseCommand {b : BayId} {r : CommandResult} {tag : Byte} (h : s.Reports t) :
    s.Reports (t.refuseCommand b r tag) := h.modifyBay

theorem takeCommand {b : BayId} {c : BayCommand} {tag : Byte} {args : CommandArgs} (h : s.Reports t) :
    s.Reports (t.takeCommand b c tag args) := by
  unfold State.takeCommand
  split
  · exact h.refuseCommand
  · exact h.overtakePowerOn.modifyBay.firstEffect

theorem takeCommandCode {b : BayId} {code : BitVec 4} {tag : Byte} {args : CommandArgs} (h : s.Reports t) :
    s.Reports (t.takeCommandCode b code tag args) := by
  unfold State.takeCommandCode
  split
  · exact h.refuseCommand
  · exact h.takeCommand

/-! ## Configuration words (R4 to R8, R19, R21, R106, R160) -/

theorem ignoreCurrent {b : BayId} (h : s.Reports t) : s.Reports (t.ignoreCurrent b) := by
  unfold State.ignoreCurrent
  split
  · exact h
  · exact .ite h.modifyEngine h

theorem release {b : BayId} (h : s.Reports t) : s.Reports (t.release b) := by
  unfold State.release
  dsimp only
  split
  case h_1 => exact h.ignoreCurrent.depart
  case h_2 | h_3 => exact h.ignoreCurrent.modifyBay.dropEntries.enqueue.huntLeave.endHunt
  case h_4 => exact h.ignoreCurrent.modifyBay.enqueue
  case h_5 => exact h.ignoreCurrent

theorem correctIndicator {b : BayId} (h : s.Reports t) : s.Reports (t.correctIndicator b) := by
  refine .ite ?_ h
  split
  · exact h
  · exact h.updateTarget

theorem writeBayConfig {b : BayId} {w : Word} (h : s.Reports t) : s.Reports (t.writeBayConfig b w) := by
  refine .ite h.setConfigRefused (.trans ?_ (.ite (refl _).correctIndicator (refl _)))
  exact .trans (.trans h.modifyBay (.ite (refl _).release (refl _))) (.ite (refl _).autoStart (refl _))

theorem writeProfile {p : ProfileId} {wordB : Bool} {w : Word} (h : s.Reports t) :
    s.Reports (t.writeProfile p wordB w) :=
  .ite h.setConfigRefused h.quiet

theorem writeClassMap {w : Word} (h : s.Reports t) : s.Reports (t.writeClassMap w) := by
  unfold State.writeClassMap
  split
  · exact h.setConfigRefused
  · exact h.quiet

theorem writeBusConfig {n : BusId} {w : Word} (h : s.Reports t) : s.Reports (t.writeBusConfig n w) := by
  unfold State.writeBusConfig
  split
  · exact h.setConfigRefused
  · exact .ite h.modifyEngine.busDown h.modifyEngine

theorem writeRoute {i : SourceId} {w : Word} (h : s.Reports t) : s.Reports (t.writeRoute i w) := by
  unfold State.writeRoute
  split
  · exact h.setConfigRefused
  · exact .ite h.quiet h.quiet

/-! ## Global commands and start-up (R123, R131, R141, R176) -/

theorem takeHunt {m : BusMask} {tag : Byte} (h : s.Reports t) : s.Reports (t.takeHunt m tag) :=
  .ite (foldl (fun t _ => (refl t).startHunt) h.answerGlobal _) h.answerGlobal

theorem takeRestart {m : BusMask} {tag : Byte} (h : s.Reports t) : s.Reports (t.takeRestart m tag) :=
  .ite (foldl (fun t _ => (refl t).busDown.startHunt) h.answerGlobal _) h.answerGlobal

theorem takeGlobal {code : BitVec 4} {m : BusMask} {tag : Byte} (h : s.Reports t) :
    s.Reports (t.takeGlobal code m tag) :=
  .ite h.takeHunt (.ite h.takeRestart h.answerGlobal)

theorem startUp (h : s.Reports t) : s.Reports t.startUp := by
  unfold State.startUp
  exact h.modifyEngine.modifyEngine.startHunt.startHunt

end State.Reports

end Sys2Proof.Machine

/-! # Every step keeps the form of the Event Queue (R145, R147) -/

namespace Sys2Proof.Machine

/-! ## What is no report: takes, OVERFLOW and resets (R151, R153, R154, R158) -/

/-- From `s` to `t` the Event Queue keeps its form. -/
def State.KeepsForm (s t : State) : Prop := s.events.Wf → t.events.Wf

theorem State.Reports.keepsForm {s t : State} (h : s.Reports t) : s.KeepsForm t := h.grows.wf

theorem State.KeepsForm.of_events {s t : State} (h : t.events = s.events := by rfl) : s.KeepsForm t :=
  fun hs => h ▸ hs

theorem State.KeepsForm.refl (s : State) : s.KeepsForm s := id

theorem State.writeTake_keepsForm (s : State) (w : Word) : s.KeepsForm (s.writeTake w) := by
  have htake : ∀ win wants, s.KeepsForm (s.takeRecord win wants) := fun win wants hs => by
    rw [State.takeRecord_events]
    exact s.events.take_wf win wants hs
  unfold State.writeTake
  dsimp only
  split
  · exact htake _ _
  · split
    · exact htake _ _
    · exact .of_events

/-- The form does not read OVERFLOW. -/
theorem State.clearOverflow_keepsForm (s : State) (w : Word) : s.KeepsForm (s.clearOverflow w) := fun hs => hs

theorem State.resetBlocks_wf (s : State) (low : Bool) (f : Frame) : (s.resetBlocks low f).events.Wf :=
  EventQueue.reset_wf

/-- A part that has been reset and has started up holds what its hunts have told (R141, R158). -/
theorem State.resetBlocks_startUp_wf (s : State) (low : Bool) (f : Frame) :
    (s.resetBlocks low f).startUp.events.Wf :=
  (State.Reports.refl _).startUp.keepsForm (s.resetBlocks_wf low f)

theorem State.writeControl_keepsForm (s : State) (w : Word) : s.KeepsForm (s.writeControl w) := by
  unfold State.writeControl
  split
  · exact fun _ => s.resetBlocks_startUp_wf _ _
  · exact .refl s

/-! ## Register words (R170, R174) -/

theorem State.writeReg_keepsForm (s : State) (r : Reg) (w : Word) : s.KeepsForm (s.writeReg r w) := by
  have hself := State.Reports.refl s
  unfold State.writeReg
  split
  · exact s.writeControl_keepsForm w
  · exact hself.takeGlobal.keepsForm
  · exact .of_events
  · exact .of_events
  · exact hself.writeBusConfig.keepsForm
  · exact .of_events
  · exact s.writeTake_keepsForm w
  · exact s.clearOverflow_keepsForm w
  · exact hself.writeRoute.keepsForm
  · exact hself.writeProfile.keepsForm
  · exact hself.writeProfile.keepsForm
  · exact hself.writeClassMap.keepsForm
  · exact hself.writeBayConfig.keepsForm
  · exact hself.takeCommandCode.keepsForm
  · exact .of_events

theorem State.writeWord_keepsForm (s : State) (a : Addr) (w : Word) : s.KeepsForm (s.writeWord a w) := by
  unfold State.writeWord
  split
  · exact .of_events
  · exact s.writeReg_keepsForm _ w

theorem wordOwner_keepsForm (c : Instr) (s : State) : s.KeepsForm (wordOwner c s) := by
  have hself := State.Reports.refl s
  cases c with
  | registerWrite a w => exact s.writeWord_keepsForm a w
  | softReset w => exact s.writeControl_keepsForm w
  | bayConfigurationWrite b w => exact hself.writeBayConfig.keepsForm
  | profileWrite p wordB w => exact hself.writeProfile.keepsForm
  | classMapWrite w => exact hself.writeClassMap.keepsForm
  | busConfigurationWrite n w => exact hself.writeBusConfig.keepsForm
  | routingEntryWrite i w => exact hself.writeRoute.keepsForm
  | takeLineWindow w => exact s.writeTake_keepsForm w
  | takeAnyWindow w => exact s.writeTake_keepsForm w
  | overflowClear w => exact s.clearOverflow_keepsForm w
  | hunt m tag => exact hself.takeHunt.keepsForm
  | busRestart m tag => exact hself.takeRestart.keepsForm
  | powerOn b tag args => exact hself.takeCommand.keepsForm
  | powerOff b tag args => exact hself.takeCommand.keepsForm
  | setInd b tag args => exact hself.takeCommand.keepsForm
  | lock b tag args => exact hself.takeCommand.keepsForm
  | unlock b tag args => exact hself.takeCommand.keepsForm
  | setAux b tag args => exact hself.takeCommand.keepsForm
  | clearFault b tag args => exact hself.takeCommand.keepsForm
  | refresh b tag args => exact hself.takeCommand.keepsForm
  | undefinedBayCommand b code tag args => exact hself.takeCommandCode.keepsForm
  | undefinedGlobalCommand code m tag => exact hself.takeGlobal.keepsForm
  | _ => exact .of_events

/-! ## Commands -/

/-- The answer of a command keeps the form of the queue. -/
def State.AnswerKeepsForm (s : State) (o : Host.Outcome State Fault Refusal) : Prop :=
  ∀ t, o = .next t → s.KeepsForm t

theorem State.KeepsForm.next {s t : State} (h : s.KeepsForm t) : s.AnswerKeepsForm (.next t) := by
  rintro u ⟨⟩; exact h

theorem State.KeepsForm.event {s t : State} (h : s.KeepsForm t) : s.AnswerKeepsForm (s.event t) := by
  cases hlow : s.resetLow with
  | true => rw [s.event_held t hlow]; exact (State.KeepsForm.refl s).next
  | false => rw [s.event_taken t hlow]; exact State.KeepsForm.next h

theorem State.Reports.event {s t : State} (h : s.Reports t) : s.AnswerKeepsForm (s.event t) := h.keepsForm.event

theorem exec_keepsForm_of_word {c : Instr} {a : Addr} (h : c.wordAddr = some a) (s : State) :
    s.AnswerKeepsForm (exec c s) := by
  have hidle : s.AnswerKeepsForm (.next s) := (State.KeepsForm.refl s).next
  rcases exec_of_wordAddr h s with hx | hx
  · rw [hx]
    cases ht : s.takesWord a with
    | true => rw [s.wordEvent_taken a _ ht]; exact State.KeepsForm.next (wordOwner_keepsForm c (s.afterWord a))
    | false => rw [s.wordEvent_ignored a _ ht]; exact hidle
  · rw [hx]; exact hidle

theorem execStartUp_keepsForm (s : State) : s.AnswerKeepsForm (execStartUp s) := by
  unfold execStartUp
  split
  · refine State.KeepsForm.next fun _ => ?_
    rw [State.noticeAppends_events]
    exact s.resetBlocks_startUp_wf _ _
  · exact (State.KeepsForm.refl s).next

theorem State.frameStart_events (s : State) : s.frameStart.events = s.events := by
  unfold State.frameStart
  split
  · split <;> rfl
  · rfl

theorem State.frameEnd_events (s : State) (bits : List Bool) : (s.frameEnd bits).events = s.events := by
  unfold State.frameEnd
  dsimp only
  split <;> rfl

theorem execXalertAsserted_keepsForm (n : BusId) (s : State) : s.AnswerKeepsForm (execXalertAsserted n s) := by
  unfold execXalertAsserted
  split
  · exact (State.KeepsForm.refl s).next
  · split
    · exact State.KeepsForm.next .of_events
    · exact (State.Reports.refl (s.setAlert n true)).evalSweep.event

theorem execSeedingReadComplete_keepsForm (n : BusId) (input output direction : Half) (s : State) :
    s.AnswerKeepsForm (execSeedingReadComplete n input output direction s) := by
  refine ((State.Reports.refl s).completeTx fun t e => ?_).event
  split
  · exact .refl t
  · exact (State.Reports.refl t).bind

theorem execAttemptDataLineLow_keepsForm (n : BusId) (s : State) :
    s.AnswerKeepsForm (execAttemptDataLineLow n s) := by
  refine State.Reports.event ?_
  split
  · exact .refl s
  · exact (State.Reports.refl s).attemptTimeout

theorem execClockStretchTimeout_keepsForm (n : BusId) (s : State) :
    s.AnswerKeepsForm (execClockStretchTimeout n s) := by
  refine State.Reports.event ?_
  split
  · exact (State.Reports.refl s).attemptTimeout
  · exact (State.Reports.refl s).passFails
  · exact .refl s

theorem execRecoveryPassEnd_keepsForm (n : BusId) (dataHigh : Bool) (s : State) :
    s.AnswerKeepsForm (execRecoveryPassEnd n dataHigh s) := by
  refine State.Reports.event ?_
  split
  · exact .ite (State.Reports.refl s).passSucceeds (State.Reports.refl s).passFails
  · exact .refl s

/-- Every command keeps the form of the queue. -/
theorem exec_keepsForm (c : Instr) (s : State) : s.AnswerKeepsForm (exec c s) := by
  have hself := State.Reports.refl s
  cases c with
  | resetNAssert => exact State.KeepsForm.next fun _ => s.resetBlocks_wf _ _
  | startUp => exact execStartUp_keepsForm s
  | timebaseTick => exact State.Reports.event hself.quiet
  | pcsNFall => exact (State.KeepsForm.of_events s.frameStart_events).next
  | pcsNRise bits => exact (State.KeepsForm.of_events (s.frameEnd_events bits)).next
  | rampTimeExpiry b => exact State.Reports.event (.ite hself.endOfRamp hself)
  | rampTimeout b => exact State.Reports.event (.ite hself.takeFault hself)
  | clkToRstExpiry b => exact State.Reports.event (.ite hself.releaseReset hself)
  | drainStepExpiry b => exact State.Reports.event (.ite hself.modifyBay.drainCompute hself)
  | cooldownExpiry b => exact State.Reports.event (.ite hself.modifyBay.cooldownEnds hself)
  | debounceExpiry b => exact State.Reports.event (.ite hself.confirmCandidate hself)
  | pollTimerExpiry n => exact State.Reports.event (.ite hself.pollReads.modifyEngine hself)
  | xalertAsserted n => exact execXalertAsserted_keepsForm n s
  | xalertDeasserted n => exact State.KeepsForm.next .of_events
  | beginTransaction n => exact hself.beginNext.event
  | outputWriteComplete n => exact (hself.completeTx fun t _ => (State.Reports.refl t).writeDone).event
  | inputReadComplete n i o d => exact (hself.completeTx fun t _ => (State.Reports.refl t).readDone).event
  | probeAcknowledged n => exact (hself.completeTx fun t _ => (State.Reports.refl t).probeFound).event
  | identReadComplete n v => exact (hself.completeTx fun t _ => (State.Reports.refl t).identJudged).event
  | setupReadComplete n o d k r => exact (hself.completeTx fun t _ => (State.Reports.refl t).readbackJudged).event
  | forceSafeWriteComplete n => exact (hself.completeTx fun t _ => (State.Reports.refl t).forceSafeDone).event
  | seedingReadComplete n i o d => exact execSeedingReadComplete_keepsForm n i o d s
  | attemptNack n => exact hself.nack.event
  | attemptDataLineLow n => exact execAttemptDataLineLow_keepsForm n s
  | clockStretchRelease n => exact hself.modifyEngine.event
  | clockStretchTimeout n => exact execClockStretchTimeout_keepsForm n s
  | recoveryPassEnd n dataHigh => exact execRecoveryPassEnd_keepsForm n dataHigh s
  | pulseHighEnd k => exact State.KeepsForm.event .of_events
  | pulseGapEnd k => exact State.KeepsForm.event .of_events
  | clockStretchDetected n => exact hself.modifyEngine.event
  | _ => exact exec_keepsForm_of_word rfl s

/-- Settles O55: every record that an event tells is enqueued, and an enqueue and a take keep the form. -/
theorem stepKeepsQueueForm : Obligations.StepKeepsQueueForm := by
  intro s t hs h
  unfold step at h
  split at h
  · cases h; exact hs
  · next c rest _ => exact exec_keepsForm c { s with pending := rest } t h hs

end Sys2Proof.Machine

/-! # The three stages of an enqueue (R146 to R149) -/

namespace Sys2Proof.Machine

/-! ## The first free SEQ (R146) -/

/-- Fewer than 32 values cannot fill the 32 that follow one another from `c`. -/
theorem exists_unused {used : List Half} (c : Half) (h : used.length < 32) :
    ∃ j < 32, c + BitVec.ofNat 16 j ∉ used := by
  by_contra hall
  push Not at hall
  have hinj : Set.InjOn (fun j => c + BitVec.ofNat 16 j) (Finset.range 32) := fun i hi j hj hij => by
    have hi := Finset.mem_range.mp hi
    have hj := Finset.mem_range.mp hj
    have hij := congrArg BitVec.toNat (BitVec.add_right_inj c |>.mp hij)
    simp only [BitVec.toNat_ofNat] at hij
    omega
  have hsub : (Finset.range 32).image (fun j => c + BitVec.ofNat 16 j) ⊆ used.toFinset := fun x hx => by
    obtain ⟨j, hj, rfl⟩ := Finset.mem_image.mp hx
    exact List.mem_toFinset.mpr (hall j (Finset.mem_range.mp hj))
  have hcard := (Finset.card_le_card hsub).trans used.toFinset_card_le
  rw [Finset.card_image_of_injOn hinj, Finset.card_range] at hcard
  omega

/-- The search stops at the first value that is not used, when its bound reaches that far. -/
theorem freshSeq_eq_first {used : List Half} {k : Nat} : ∀ {n : Nat} {c : Half}, k ≤ n →
    c + BitVec.ofNat 16 k ∉ used → (∀ j < k, c + BitVec.ofNat 16 j ∈ used) →
    freshSeq used n c = c + BitVec.ofNat 16 k := by
  induction k with
  | zero =>
    intro n c _ hk _
    cases n with
    | zero => simp [freshSeq]
    | succ n =>
      have hc : c ∉ used := by simpa using hk
      simp [freshSeq, hc]
  | succ k ih =>
    intro n c hn hk hused
    have hstep : ∀ i, c + 1 + BitVec.ofNat 16 i = c + BitVec.ofNat 16 (i + 1) := fun i => by
      rw [BitVec.add_assoc, BitVec.add_comm 1, BitVec.ofNat_add]
      rfl
    have hc : c ∈ used := by simpa using hused 0 k.succ_pos
    obtain ⟨n, rfl⟩ := Nat.exists_eq_add_of_le' (Nat.one_le_of_lt hn)
    rw [freshSeq, if_pos hc, ih (Nat.le_of_succ_le_succ hn) (by rwa [hstep]) fun j hj => ?_, hstep]
    rw [hstep]
    exact hused (j + 1) (Nat.succ_lt_succ hj)

/-- With fewer than 32 SEQs in use, an append takes the first free one from the counter on. -/
theorem freshSeq_first {used : List Half} (c : Half) (h : used.length < 32) :
    ∃ k < 32, freshSeq used 32 c = c + BitVec.ofNat 16 k ∧ ∀ j < k, c + BitVec.ofNat 16 j ∈ used := by
  classical
  have hex := exists_unused c h
  have hlt : Nat.find hex < 32 := (Nat.find_spec hex).1
  have hused : ∀ j < Nat.find hex, c + BitVec.ofNat 16 j ∈ used := fun j hj =>
    not_not.mp fun hj' => Nat.find_min hex hj ⟨hj.trans hlt, hj'⟩
  exact ⟨_, hlt, freshSeq_eq_first hlt.le (Nat.find_spec hex).2 hused, hused⟩

/-! ## An append (R148) -/

/-- The back record is the only one that an append adds to a count. -/
theorem EventQueue.lineCount_enqueue_append {q : EventQueue} {tag : Option LineId} {now : Word} {src : Source}
    {d : Detail} (h : q.records.any (fun r => r.absorbs src d) = false) (hl : q.records.length < 32)
    (k : Option LineId) :
    (q.enqueue tag now src d).lineCount k = q.lineCount k + if tag = k then 1 else 0 := by
  rw [q.enqueue_append tag now src d h hl]
  simp [EventQueue.lineCount, EventQueue.appended, List.countP_singleton]

/-- Settles O23: the SEQ is the first free one, and the line of the record's tag is the one whose count has risen. -/
theorem recordAppended : Obligations.RecordAppended := by
  intro src d s hnone hlen
  let tag := (s.routing[src.index]).line
  have happend : (s.enqueue src d).events = _ := s.events.enqueue_append tag s.millis src d hnone hlen
  have hcount : ∀ k, (s.enqueue src d).events.lineCount k = s.events.lineCount k + if tag = k then 1 else 0 :=
    EventQueue.lineCount_enqueue_append hnone hlen
  have hused : (s.events.records.map (·.seq)).length < 32 := by simpa using hlen
  obtain ⟨k, hk, hseq, hbefore⟩ := freshSeq_first s.events.seqCounter hused
  refine ⟨s.events.appended tag s.millis src d, congrArg EventQueue.records happend, fun q hq heq => ?_,
    ⟨k, hk, hseq, fun j hj => List.mem_map.mp (hbefore j hj)⟩, congrArg EventQueue.seqCounter happend,
    rfl, rfl, rfl, rfl, rfl, rfl, congrArg EventQueue.missed happend, hcount,
    by rw [happend], by rw [happend], fun j => ?_⟩
  · exact freshSeq_not_mem _ _ hused (List.mem_map.mpr ⟨q, hq, heq⟩)
  · rw [State.noticeAppends_line, hcount, State.enqueue_lines]
    refine if_congr ?_ rfl rfl
    split
    · next h => exact iff_of_true (Nat.lt_succ_self _) h
    · next h => exact iff_of_false (Nat.lt_irrefl _) h

/-! ## A coalesce (R147) -/

/-- A saturating count, with the count that it stops at written out (00_scope 5.5). -/
theorem satInc_eq (c : Byte) : satInc c = if c = 255 then 255 else c + 1 := by
  unfold satInc
  split
  · next h => exact h
  · rfl

theorem Record.absorbs_iff {r : Record} {src : Source} {d : Detail} :
    r.absorbs src d = true ↔ d.kind.coalesces = true ∧ r.source = src ∧ r.detail.kind = d.kind := by
  simp only [Record.absorbs, Bool.and_eq_true, decide_eq_true_eq, and_assoc]

/-- Records that stand apart do not absorb the same record (R147). -/
theorem Record.apart.not_absorbs {r q : Record} {src : Source} {d : Detail} (h : r.apart q)
    (hr : r.absorbs src d = true) : q.absorbs src d = false := by
  obtain ⟨hc, hs, hk⟩ := Record.absorbs_iff.mp hr
  refine Bool.eq_false_iff.mpr fun hq => h ?_
  obtain ⟨-, hs', hk'⟩ := Record.absorbs_iff.mp hq
  exact ⟨hk ▸ hc, hs.trans hs'.symm, hk.trans hk'.symm⟩

theorem Record.apart.symm {r q : Record} (h : r.apart q) : q.apart r :=
  fun ⟨hc, hs, hk⟩ => h ⟨hk ▸ hc, hs.symm, hk.symm⟩

/-- Where no record absorbs, a coalesce changes none. -/
theorem map_coalesce_of_forall_not {l : List Record} {src : Source} {d : Detail} (f : Record → Record)
    (h : ∀ r ∈ l, r.absorbs src d = false) : (l.map fun r => if r.absorbs src d then f r else r) = l := by
  rw [List.map_congr_left fun r hr => if_neg (Bool.eq_false_iff.mp (h r hr)), List.map_id']

/-- In a queue of the form of R147, one record alone absorbs the new one, where it stands. -/
theorem EventQueue.Wf.map_coalesce {q : EventQueue} {pre post : List Record} {r : Record} {src : Source} {d : Detail}
    (hq : q.Wf) (hrec : q.records = pre ++ r :: post) (hr : r.absorbs src d = true) (f : Record → Record) :
    (q.records.map fun r => if r.absorbs src d then f r else r) = pre ++ f r :: post := by
  have hap := hq.2.2
  rw [hrec, List.pairwise_append, List.pairwise_cons] at hap
  obtain ⟨-, ⟨hpost, -⟩, hpre⟩ := hap
  rw [hrec, List.map_append, List.map_cons, if_pos hr,
    map_coalesce_of_forall_not f fun x hx => (hpre x hx r (List.mem_cons_self ..)).symm.not_absorbs hr,
    map_coalesce_of_forall_not f fun x hx => (hpost x hx).not_absorbs hr]

/-- Settles O24: one record alone absorbs the new one, and its line, and so every count, is as before. -/
theorem recordCoalesced : Obligations.RecordCoalesced := by
  intro src d pre post r s hrec hkind hsrc hdetail hwf
  have hr : r.absorbs src d = true := Record.absorbs_iff.mpr ⟨hkind, hsrc, hdetail⟩
  have hany : s.events.records.any (fun r => r.absorbs src d) = true :=
    List.any_eq_true.mpr ⟨r, by rw [hrec]; exact List.mem_append_right pre (List.mem_cons_self ..), hr⟩
  have hcoalesce : s.enqueue src d = { s with events := { s.events with
      records := pre ++ { r with detail := d, time := s.millis,
                                 count := if r.count = 255 then 255 else r.count + 1 } :: post } } := by
    rw [State.enqueue, s.events.enqueue_coalesce _ _ _ _ hany, hwf.map_coalesce hrec hr, satInc_eq]
  rw [hcoalesce]
  refine State.noticeAppends_of_count_le _ _ fun k => le_of_eq ?_
  simp only [EventQueue.lineCount, hrec, List.countP_append, List.countP_cons]

/-! ## A drop (R149) -/

/-- Settles O25: the dropped record leaves the records, and so every count, alone. -/
theorem recordDropped : Obligations.RecordDropped := by
  intro src d s hnone hlen
  rw [State.enqueue, s.events.enqueue_drop _ _ _ _ hnone (by omega), satInc_eq]
  exact State.noticeAppends_of_count_le _ _ fun k => Nat.le_refl _

end Sys2Proof.Machine

/-! # Routing entry words, line control words and the pins (R160 to R163, R166) -/

namespace Sys2Proof.Machine

/-! ## Routing entries (R160) -/

/-- The words that name no route: an undefined LINE code, or NONE with EXCL set (R160, case 1). -/
theorem Route.ofWord_eq_none_iff (w : Word) :
    Route.ofWord w = none ↔ 4 < (fieldOf w 0 3).toNat ∨ ((fieldOf w 0 3).toNat = 4 ∧ bitOf w 4 = true) := by
  have hnone : fieldOf w 0 3 = 4 ↔ (fieldOf w 0 3).toNat = 4 := BitVec.toNat_inj.symm
  unfold Route.ofWord
  dsimp only
  split
  · next h => exact iff_of_false nofun (by omega)
  · next h =>
    have hcode : (fieldOf w 0 3).toNat = 4 ∨ 4 < (fieldOf w 0 3).toNat := by omega
    split
    · next h4 => exact iff_of_false nofun (by simp [h4])
    · next h4 =>
      refine iff_of_true rfl (hcode.symm.imp_right fun hn => ⟨hn, ?_⟩)
      simpa [hnone.mpr hn] using h4

/-- A route conflicts when another entry names its line, and one of the two claims the line for itself (R160). -/
theorem State.routeConflicts_iff (s : State) (i : SourceId) (r : Route) :
    s.routeConflicts i r = true ↔
      ∃ j : SourceId, j ≠ i ∧ r.line ≠ none ∧ (s.routing[j]).line = r.line ∧
        (r.excl = true ∨ (s.routing[j]).excl = true) := by
  simp only [State.routeConflicts, State.otherRoute, Bool.and_eq_true, Bool.or_eq_true, List.any_eq_true,
    List.mem_finRange, true_and, decide_eq_true_eq, Option.isSome_iff_ne_none]
  constructor
  · rintro ⟨hline, ⟨j, hj, hsame, hexcl⟩ | ⟨hexcl, j, hj, hsame⟩⟩
    · exact ⟨j, hj, hline, hsame, .inr hexcl⟩
    · exact ⟨j, hj, hline, hsame, .inl hexcl⟩
  · rintro ⟨j, hj, hline, hsame, hexcl | hexcl⟩
    · exact ⟨hline, .inr ⟨hexcl, j, hj, hsame⟩⟩
    · exact ⟨hline, .inl ⟨j, hj, hsame, hexcl⟩⟩

theorem State.writeRoute_undefined (s : State) (i : SourceId) {w : Word} (h : Route.ofWord w = none) :
    s.writeRoute i w = s.setConfigRefused := by
  rw [State.writeRoute, h]

theorem State.writeRoute_conflict (s : State) {i : SourceId} {w : Word} {r : Route} (h : Route.ofWord w = some r)
    (hc : s.routeConflicts i r = true) : s.writeRoute i w = { s with routeConflict := true } := by
  rw [State.writeRoute, h]
  exact if_pos hc

theorem State.writeRoute_taken (s : State) {i : SourceId} {w : Word} {r : Route} (h : Route.ofWord w = some r)
    (hc : ¬ s.routeConflicts i r = true) : s.writeRoute i w = { s with routing := s.routing.set i r } := by
  rw [State.writeRoute, h]
  exact if_neg hc

/-- A routing entry word tells no record. -/
theorem State.writeRoute_events (s : State) (i : SourceId) (w : Word) : (s.writeRoute i w).events = s.events := by
  unfold State.writeRoute
  split
  · rfl
  · split <;> rfl

theorem exec_routingEntryWrite {s : State} {i : SourceId} (w : Word) (ht : s.takesWord (Reg.routing i).addr = true) :
    exec (.routingEntryWrite i w) s = .next ((s.afterWord (Reg.routing i).addr).writeRoute i w) :=
  s.wordEvent_quiet _ (fun t => t.writeRoute i w) ht (State.writeRoute_events _ i w)

/-! ## Line control words (R166) -/

theorem Line.written_pulsing (l : Line) (w : Word) (count : Nat) :
    (l.written w count).pulsing = (bitOf w 0 && bitOf w 1) := by
  obtain ⟨henable, hpulse, -⟩ := l.written_fields w count
  rw [Line.pulsing, henable, hpulse]

/-- A line that the word disables or takes out of PULSE mode is in QUIET, with nothing owed. -/
theorem Line.written_still {w : Word} (l : Line) (count : Nat) (h : (bitOf w 0 && bitOf w 1) = false) :
    (l.written w count).phase = .quiet ∧ (l.written w count).owed = false := by
  simp [Line.written, Line.pulsing, h]

/-- A line that stays in PULSE mode keeps its pulse state. -/
theorem Line.written_stays {w : Word} {l : Line} (count : Nat) (h : (bitOf w 0 && bitOf w 1) = true)
    (hl : l.pulsing = true) : (l.written w count).phase = l.phase ∧ (l.written w count).owed = l.owed := by
  simp only [Line.pulsing] at hl
  simp [Line.written, Line.pulsing, h, hl]

/-- A line that enters PULSE mode starts a pulse when records are queued for it. -/
theorem Line.written_starts {w : Word} {l : Line} (count : Nat) (h : (bitOf w 0 && bitOf w 1) = true)
    (hl : l.pulsing = false) :
    (l.written w count).owed = false ∧ (l.written w count).phase = if 0 < count then .high else .quiet := by
  simp only [Line.pulsing] at hl
  by_cases hc : 0 < count <;> simp [Line.written, Line.cause, Line.pulsing, h, hl, hc]

theorem exec_lineControlWrite {s : State} {k : LineId} (w : Word) (ht : s.takesWord (Reg.lineControl k).addr = true) :
    exec (.lineControlWrite k w) s = .next { s.afterWord (Reg.lineControl k).addr with
      lines := s.lines.set k ((s.lines[k]).written w (s.events.lineCount (some k))) } :=
  s.wordEvent_quiet _ (fun t => t.writeLine k w) ht rfl

/-! ## Assertion and the pins (R162, R163; log entry 15) -/

theorem Line.asserted_disabled {l : Line} (count : Nat) (h : l.enable = false) : l.asserted count = false := by
  simp [Line.asserted, h]

theorem Line.asserted_level {l : Line} (count : Nat) (h : l.enable = true) (hp : l.pulse = false) :
    l.asserted count = decide (0 < count) := by
  simp [Line.asserted, h, hp]

theorem Line.asserted_pulse {l : Line} (count : Nat) (h : l.enable = true) (hp : l.pulse = true) :
    l.asserted count = decide (l.phase = .high) := by
  simp [Line.asserted, h, hp]

theorem State.notifyPin_eq (s : State) (k : LineId) :
    s.notifyPin k = if (s.lines[k]).activeHigh then s.lineAsserted k else !s.lineAsserted k := by
  unfold State.notifyPin
  cases (s.lines[k]).activeHigh <;> simp

/-- Settles O21: a routing word by the three cases of R160, a line word by the rows of R166, and the pin by the mode of
its line. -/
theorem routerWords : Obligations.RouterWords := by
  refine ⟨fun i w s ht => ⟨Route.ofWord_eq_none_iff w, fun hr => ?_, fun r hr hc => ?_, fun r hr hc => ?_⟩,
    fun k w s ht => ?_,
    fun k s => ⟨Line.asserted_disabled _, Line.asserted_level _, Line.asserted_pulse _, s.notifyPin_eq k⟩⟩
  · rw [exec_routingEntryWrite w ht, State.writeRoute_undefined _ i hr]
  · rw [exec_routingEntryWrite w ht,
      (s.afterWord _).writeRoute_conflict hr ((State.routeConflicts_iff _ i r).mpr hc)]
  · rw [exec_routingEntryWrite w ht,
      (s.afterWord _).writeRoute_taken hr fun h => hc ((State.routeConflicts_iff _ i r).mp h)]
    rfl
  · have hpulsing := (s.lines[k]).written_pulsing w (s.events.lineCount (some k))
    obtain ⟨henable, hpulse, hactive⟩ := (s.lines[k]).written_fields w (s.events.lineCount (some k))
    refine ⟨_, exec_lineControlWrite w ht, henable, hpulse, hactive, fun he => ?_, fun _ hp => ?_, fun hw hl => ?_,
      fun hw hl => ?_⟩
    · exact Line.written_still _ _ (by rw [← henable, he, Bool.false_and])
    · exact Line.written_still _ _ (by rw [← hpulse, hp, Bool.and_false])
    · exact Line.written_stays _ (hpulsing ▸ hw) hl
    · exact Line.written_starts _ (hpulsing ▸ hw) hl

end Sys2Proof.Machine

/-! # Events that move no line by themselves

Whatever an event does to bays and buses, it leaves the lines to the Router, which is told of its appends at its end
(R165), and it brings no route, time or count out of its range. `State.Reports` follows the records through an event;
`State.Orderly` follows the fields that the ranges speak of, and holds of words that tell no record as well. -/

namespace Sys2Proof.Machine

/-! ## Attempts in range (R107) -/

theorem BusState.CountsBounded.ignore {g : BusState} (h : g.CountsBounded) : g.ignore.CountsBounded := by
  cases g <;> exact h

theorem BusState.CountsBounded.age {g : BusState} (h : g.CountsBounded) : g.age.CountsBounded := by
  cases g <;> exact h

theorem BusState.CountsBounded.stretchStart {g : BusState} (h : g.CountsBounded) : g.stretchStart.CountsBounded :=
  by
  unfold BusState.stretchStart
  split <;> exact h

theorem BusState.CountsBounded.stretchStop {g : BusState} (h : g.CountsBounded) : g.stretchStop.CountsBounded :=
  by
  unfold BusState.stretchStop
  split <;> exact h

theorem BusState.CountsBounded.of_onWire {g : BusState} {tx : Tx} {a : Nat} (h : g.CountsBounded)
    (hw : g.onWire = some (tx, a)) : 1 ≤ a ∧ a ≤ 8 := by
  cases g with
  | active tx' a' sp stretch =>
    cases stretch with
    | none => cases hw; exact h
    | some left => cases hw
  | idle => cases hw
  | recovering tx' a' p sp stretch => cases hw
  | failed => cases hw

/-- From `s` to `t` no line has moved, exclusive routes have stayed exclusive (R160), the configured times positive (R4,
R19) and the counts of the engines in range (R107). -/
structure State.Orderly (s t : State) : Prop where
  lines : t.lines = s.lines
  routes : s.RoutesExclusive → t.RoutesExclusive
  times : s.TimesPositive → t.TimesPositive
  counts : s.CountsBounded → t.CountsBounded

namespace State.Orderly

variable {s t u : State}

theorem refl (s : State) : s.Orderly s := ⟨rfl, id, id, id⟩

theorem trans (h : s.Orderly t) (h' : t.Orderly u) : s.Orderly u :=
  ⟨h'.lines.trans h.lines, h'.routes ∘ h.routes, h'.times ∘ h.times, h'.counts ∘ h.counts⟩

theorem ite {c : Prop} {_ : Decidable c} (h : s.Orderly t) (h' : s.Orderly u) : s.Orderly (if c then t else u) :=
  by
  split
  · exact h
  · exact h'

/-- A further change that acts under a condition. -/
theorem when {c : Prop} {_ : Decidable c} (h : s.Orderly t) (h' : t.Orderly u) : s.Orderly (if c then u else t) :=
  .ite (h.trans h') h

/-- A change to none of the fields that the invariants read. -/
theorem quiet (h : s.Orderly t)
    (hu : (u.lines, u.routing, u.bays, u.engines, u.profiles) = (t.lines, t.routing, t.bays, t.engines, t.profiles)) :
    s.Orderly u := by
  simp only [Prod.mk.injEq] at hu
  obtain ⟨hl, hr, hb, he, hp⟩ := hu
  refine ⟨hl.trans h.lines, fun hs => ?_, fun hs => ?_, fun hs => ?_⟩
  · simpa only [State.RoutesExclusive, hr] using h.routes hs
  · simpa only [State.TimesPositive, State.bay, hb, hp] using h.times hs
  · simpa only [State.CountsBounded, State.engine, he] using h.counts hs

theorem foldl {α : Type} {f : State → α → State} (hf : ∀ (t : State) a, t.Orderly (f t a)) (h : s.Orderly t)
    (l : List α) : s.Orderly (l.foldl f t) := by
  induction l generalizing t with
  | nil => exact h
  | cons a l ih => exact ih (h.trans (hf t a))

/-! ## The shared operations -/

theorem enqueue {src : Source} {d : Detail} (h : s.Orderly t) : s.Orderly (t.enqueue src d) := h.quiet rfl

theorem enqueueAll {src : Source} (ds : List Detail) (h : s.Orderly t) : s.Orderly (t.enqueueAll src ds) :=
  foldl (fun t _ => (refl t).enqueue) h ds

/-- A change to a bay that leaves its DEBOUNCE positive. -/
theorem configure {b : BayId} {f : Bay → Bay} (h : s.Orderly t)
    (hf : (t.bay b).config.debounce ≠ 0 → (f (t.bay b)).config.debounce ≠ 0) : s.Orderly (t.modifyBay b f) where
  lines := h.lines
  routes := h.routes
  times hs := by
    obtain ⟨hbays, hprofiles⟩ := h.times hs
    refine ⟨fun c => ?_, hprofiles⟩
    rw [State.modifyBay_bay]
    split
    · exact hf (hbays b)
    · exact hbays c
  counts := h.counts

theorem modifyBay {b : BayId} {f : Bay → Bay} (h : s.Orderly t) (hf : (fun x => (f x).config) = Bay.config) :
    s.Orderly (t.modifyBay b f) :=
  h.configure fun hd => congrFun hf (t.bay b) ▸ hd

/-- A change to an engine that leaves its counts in range. -/
theorem moveBus {n : BusId} {f : Engine → Engine} (h : s.Orderly t)
    (hf : s.CountsBounded → (f (t.engine n)).bus.CountsBounded) : s.Orderly (t.modifyEngine n f) where
  lines := h.lines
  routes := h.routes
  times := h.times
  counts hs m := by
    rw [State.modifyEngine_engine]
    split
    · exact hf hs
    · exact h.counts hs m

theorem modifyEngine {n : BusId} {f : Engine → Engine} (h : s.Orderly t) (hf : (fun e => (f e).bus) = Engine.bus) :
    s.Orderly (t.modifyEngine n f) :=
  h.moveBus fun hs => congrFun hf (t.engine n) ▸ h.counts hs n

theorem setConfigRefused (h : s.Orderly t) : s.Orderly t.setConfigRefused := h.quiet rfl

theorem answerGlobal {code : BitVec 4} {r : CommandResult} {tag : Byte} (h : s.Orderly t) :
    s.Orderly (t.answerGlobal code r tag) := h.quiet rfl

theorem requestRead {b : BayId} {w : Waiters} (h : s.Orderly t) : s.Orderly (t.requestRead b w) :=
  .ite (h.modifyEngine (by rfl)) h

theorem requestWrite {b : BayId} {urgent : Bool} (h : s.Orderly t) : s.Orderly (t.requestWrite b urgent) :=
  .ite (h.modifyEngine (by rfl)) h

theorem requestDiscovery {b : BayId} {k : TxKind} {c : Option Written} (h : s.Orderly t) :
    s.Orderly (t.requestDiscovery b k c) :=
  .ite (h.modifyEngine (by rfl)) h

theorem updateTarget {b : BayId} {f : Image → Image} {urgent : Bool} (h : s.Orderly t) :
    s.Orderly (t.updateTarget b f urgent) :=
  .ite h (h.modifyBay (by rfl)).requestWrite

theorem completeCommand {b : BayId} {r : CommandResult} (h : s.Orderly t) : s.Orderly (t.completeCommand b r) :=
  by
  refine .ite ?_ h
  split
  · exact h.modifyBay (by rfl)
  · exact (h.modifyBay (by rfl)).enqueue

/-! ## Sweeps, departures and hunts (R7, R87 to R89, R112, R127 to R130) -/

theorem startSweep {n : BusId} (h : s.Orderly t) : s.Orderly (t.startSweep n) := by
  unfold State.startSweep
  exact (foldl (fun t _ => (refl t).requestRead) h _).modifyEngine (by rfl)

theorem evalSweep {n : BusId} (h : s.Orderly t) : s.Orderly (t.evalSweep n) := .ite h.startSweep h

theorem sweepLeave {b : BayId} (h : s.Orderly t) : s.Orderly (t.sweepLeave b) := by
  unfold State.sweepLeave
  split
  · exact h
  · exact .ite (h.modifyEngine (by rfl)).evalSweep (h.modifyEngine (by rfl))

theorem dropEntries {b : BayId} (h : s.Orderly t) : s.Orderly (t.dropEntries b) :=
  (h.modifyEngine (by rfl)).when (refl _).sweepLeave

theorem depart {b : BayId} {dest : LinkState} {cause : LinkCause} (h : s.Orderly t) :
    s.Orderly (t.depart b dest cause) :=
  (h.modifyBay (by rfl)).completeCommand.dropEntries.enqueue.enqueue

theorem huntLeave {b : BayId} (h : s.Orderly t) : s.Orderly (t.huntLeave b) := h.modifyEngine (by rfl)

theorem endHunt {n : BusId} (h : s.Orderly t) : s.Orderly (t.endHunt n) := by
  unfold State.endHunt
  split
  · exact h
  · exact .ite (h.enqueue.modifyEngine (by rfl)) h

theorem huntReach {b : BayId} (h : s.Orderly t) : s.Orderly (t.huntReach b) :=
  .ite ((h.modifyEngine (by rfl)).modifyBay (by rfl)).requestDiscovery h

theorem startHunt {n : BusId} (h : s.Orderly t) : s.Orderly (t.startHunt n) :=
  (foldl (fun t _ => (refl t).huntReach) (h.modifyEngine (by rfl)) _).endHunt

theorem huntBound {b : BayId} (h : s.Orderly t) : s.Orderly (t.huntBound b) :=
  .ite (h.modifyEngine (by rfl)).huntLeave h

/-! ## A whole bus (R122 to R124) -/

theorem bayDown {failing : Bool} {b : BayId} (h : s.Orderly t) : s.Orderly (t.bayDown failing b) := by
  unfold State.bayDown
  extract_lets cause
  split
  case h_1 => exact h.depart
  case h_2 => exact (h.modifyBay (by rfl)).huntLeave.enqueue
  case h_3 =>
    exact .ite ((h.modifyBay (by rfl)).huntLeave.when (refl _).enqueue) (h.modifyBay (by rfl)).huntLeave.enqueue
  case h_4 => exact h
  case h_5 => exact h

theorem busDown {n : BusId} {failing : Bool} (h : s.Orderly t) : s.Orderly (t.busDown n failing) := by
  have hidle : (if failing then BusState.failed else .idle).CountsBounded := by cases failing <;> trivial
  exact (foldl (fun t _ => (refl t).bayDown) (h.moveBus fun _ => hidle).enqueue _).evalSweep.endHunt

/-! ## Power-up and cooldown (R24 to R30, R34, R35) -/

theorem startTimer {b : BayId} {p : SeqPurpose} {n : Nat} (h : s.Orderly t) : s.Orderly (t.startTimer b p n) :=
  h.modifyBay (by rfl)

theorem rampWaitEnd {b : BayId} (h : s.Orderly t) : s.Orderly (t.rampWaitEnd b) := by
  unfold State.rampWaitEnd
  dsimp only
  split
  · exact h.startTimer
  · exact h.startTimer.requestRead

theorem beginPowerUp {b : BayId} (h : s.Orderly t) : s.Orderly (t.beginPowerUp b) :=
  ((h.modifyBay (by rfl)).updateTarget.modifyBay (by rfl)).when (refl _).rampWaitEnd

theorem autoStart {b : BayId} (h : s.Orderly t) : s.Orderly (t.autoStart b) := .ite h.beginPowerUp h

theorem endOfRamp {b : BayId} (h : s.Orderly t) : s.Orderly (t.endOfRamp b) :=
  (h.updateTarget.modifyBay (by rfl)).when (refl _).startTimer

theorem enterOn {b : BayId} (h : s.Orderly t) : s.Orderly (t.enterOn b) :=
  ((h.modifyBay (by rfl)).when (refl _).completeCommand).enqueue

theorem releaseReset {b : BayId} (h : s.Orderly t) : s.Orderly (t.releaseReset b) :=
  (h.updateTarget.modifyBay (by rfl)).when (refl _).enterOn

theorem enterOff {b : BayId} (h : s.Orderly t) : s.Orderly (t.enterOff b) :=
  (h.modifyBay (by rfl)).enqueue.autoStart

theorem abandonHeld {b : BayId} (h : s.Orderly t) : s.Orderly (t.abandonHeld b) :=
  .ite (h.modifyBay (by rfl)).completeCommand h

theorem cooldownEnds {b : BayId} (h : s.Orderly t) : s.Orderly (t.cooldownEnds b) :=
  .ite h.abandonHeld.beginPowerUp h.abandonHeld.enterOff

theorem enterCool {b : BayId} {cause : Option StateCause} (h : s.Orderly t) : s.Orderly (t.enterCool b cause) :=
  by
  unfold State.enterCool
  extract_lets auto s1 s2 s3 commanded s4 n s5 s6
  have h3 : s.Orderly s3 := (h.modifyBay (by rfl)).updateTarget.modifyBay (by rfl)
  have h4 : s.Orderly s4 := h3.when (refl _).completeCommand
  have h5 : s.Orderly s5 := h4.when (refl _).abandonHeld
  have h6 : s.Orderly s6 := h5.enqueue
  exact .ite h6.cooldownEnds h6.startTimer

/-! ## Power-down and faults (R31 to R33, R42 to R46) -/

theorem drainStep {b : BayId} {st : SeqStep} (h : s.Orderly t) : s.Orderly (t.drainStep b st) := by
  unfold State.drainStep
  exact h.updateTarget.modifyBay (by rfl)

theorem drainDone {b : BayId} (h : s.Orderly t) : s.Orderly (t.drainDone b) := by
  unfold State.drainDone
  exact h.updateTarget.enterCool

theorem drainCompute {fuel : Nat} {b : BayId} (h : s.Orderly t) : s.Orderly (State.drainCompute fuel t b) := by
  induction fuel using Nat.strongRecOn generalizing t with
  | ind fuel ih =>
    unfold State.drainCompute
    split
    · exact h.drainDone
    · refine .ite (.ite h.drainStep.enterCool (.ite ?_ h.drainStep.startTimer)) h.drainStep
      split
      · exact h.drainStep
      · next k => exact ih k (Nat.lt_succ_self k) h.drainStep

theorem drainWaitEnd {b : BayId} {st : SeqStep} (h : s.Orderly t) : s.Orderly (t.drainWaitEnd b st) :=
  .ite h.enterCool (.ite h.drainCompute h.startTimer)

theorem powerDown {b : BayId} (h : s.Orderly t) : s.Orderly (t.powerDown b) :=
  .trans ((h.when (refl _).completeCommand).modifyBay (by rfl)) (.ite (refl _) (refl _).drainCompute)

theorem takeFault {b : BayId} {kind : FaultKind} (h : s.Orderly t) : s.Orderly (t.takeFault b kind) :=
  ((h.updateTarget.modifyBay (by rfl)).when (refl _).completeCommand).enqueue.enqueue

theorem judgeLive {b : BayId} {before : Bool} (h : s.Orderly t) : s.Orderly (t.judgeLive b before) := by
  have hnoted : s.Orderly
      (if (t.bay b).live.fault then t else t.modifyBay b fun x => { x with idleNote := false }) :=
    .ite h (h.modifyBay (by rfl))
  unfold State.judgeLive
  dsimp only
  split
  case h_1 => exact .ite hnoted.takeFault (.ite hnoted.endOfRamp hnoted)
  case h_2 | h_3 => exact .ite hnoted.takeFault (.ite hnoted hnoted.takeFault)
  case h_4 => exact .ite hnoted.takeFault hnoted
  case h_5 => exact .ite (.when (.ite hnoted (hnoted.modifyBay (by rfl))) (refl _).completeCommand) hnoted
  case h_6 | h_7 => exact .ite (hnoted.modifyBay (by rfl)).enqueue hnoted
  case h_8 => exact hnoted

/-! ## A completed write (R22, R60, R116) -/

theorem sequencerTest {b : BayId} (h : s.Orderly t) : s.Orderly (t.sequencerTest b) := by
  unfold State.sequencerTest
  dsimp only
  split
  · exact .ite h.rampWaitEnd h
  · exact .ite (.ite h.enterOn h.startTimer) h
  · split
    · exact h.drainCompute
    · exact .ite h.drainWaitEnd h
  · exact h

theorem awaitedTest {b : BayId} (h : s.Orderly t) : s.Orderly (t.awaitedTest b) := by
  unfold State.awaitedTest
  dsimp only
  split
  · exact h
  · exact .ite (.ite (h.modifyBay (by rfl)).completeCommand.enterCool h.completeCommand) h

theorem writeDone {e : Entry} (h : s.Orderly t) : s.Orderly (t.writeDone e) :=
  (h.modifyBay (by rfl)).awaitedTest.sequencerTest

/-! ## Debounce, acceptance and a completed read (R73 to R91) -/

theorem automaticOff {b : BayId} {enabled : Bool} (h : s.Orderly t) : s.Orderly (t.automaticOff b enabled) :=
  .ite h.powerDown h

theorem acceptView {b : BayId} {v : View} {levels : Half} (h : s.Orderly t) :
    s.Orderly (t.acceptView b v levels) := by
  have htold : s.Orderly (t.acceptTold b v levels) := (h.modifyBay (by rfl)).enqueueAll _
  rw [State.acceptView_eq]
  exact .trans (.ite htold (.ite htold.autoStart htold.automaticOff))
    (.ite (refl _) (.ite (refl _).autoStart (refl _).automaticOff))

theorem debounce {b : BayId} {v : View} {levels : Half} {confirming : Bool} (h : s.Orderly t) :
    s.Orderly (t.debounce b v levels confirming) := by
  have hdiscarded : s.Orderly (t.discardCandidate b) := h.modifyBay (by rfl)
  have hstarted : s.Orderly (t.startCandidate b v) := h.modifyBay (by rfl)
  unfold State.debounce
  dsimp only
  split
  · exact .ite h hstarted
  · split
    · exact .ite h (.ite hdiscarded hstarted)
    · exact .ite (.ite h.acceptView h) (.ite (hdiscarded.modifyEngine (by rfl)) (hstarted.modifyEngine (by rfl)))

theorem answerWaiters {b : BayId} {w : Waiters} (h : s.Orderly t) : s.Orderly (t.answerWaiters b w) :=
  (h.when (refl _).completeCommand).when (refl _).sweepLeave

theorem readDone {b : BayId} {w : Waiters} {levels output direction : Half} (h : s.Orderly t) :
    s.Orderly (t.readDone b w levels output direction) :=
  (ite (ite (h.modifyBay (by rfl)).depart.requestDiscovery
    ((h.modifyBay (by rfl)).judgeLive.when (refl _).debounce)) (h.modifyBay (by rfl))).answerWaiters

theorem confirmCandidate {b : BayId} (h : s.Orderly t) : s.Orderly (t.confirmCandidate b) :=
  (h.modifyBay (by rfl)).requestRead

theorem pollReads {n : BusId} (h : s.Orderly t) : s.Orderly (t.pollReads n) :=
  foldl (fun t _ => (refl t).requestRead) h _

/-! ## Discovery (R129 to R139) -/

theorem probeFound {b : BayId} (h : s.Orderly t) : s.Orderly (t.probeFound b) :=
  ((h.modifyEngine (by rfl)).modifyBay (by rfl)).requestDiscovery

theorem probeNotFound {b : BayId} (h : s.Orderly t) : s.Orderly (t.probeNotFound b) :=
  ((h.modifyBay (by rfl)).huntLeave.when (refl _).enqueue).endHunt

theorem identJudged {b : BayId} {ident : Byte} (h : s.Orderly t) : s.Orderly (t.identJudged b ident) :=
  .ite h.requestDiscovery (h.modifyBay (by rfl)).huntLeave.enqueue.endHunt

theorem setupFailed {b : BayId} (h : s.Orderly t) : s.Orderly (t.setupFailed b) :=
  (h.modifyBay (by rfl)).enqueue.huntLeave.endHunt

theorem readbackJudged {b : BayId} {r : Regs} (h : s.Orderly t) : s.Orderly (t.readbackJudged b r) := by
  unfold State.readbackJudged
  dsimp only
  split
  · exact (h.modifyBay (by rfl)).requestDiscovery
  · exact (h.modifyBay (by rfl)).requestDiscovery

theorem forceSafeDone {b : BayId} {c : Option Written} (h : s.Orderly t) : s.Orderly (t.forceSafeDone b c) :=
  (h.modifyBay (by rfl)).requestDiscovery

theorem bindPower {b : BayId} {dec : Decided} (h : s.Orderly t) : s.Orderly (t.bindPower b dec) := by
  cases dec with
  | cool => exact h.enterCool
  | on => exact h.updateTarget.enqueue
  | off => exact h.updateTarget.enqueue

theorem bindChecks {b : BayId} (h : s.Orderly t) : s.Orderly (t.bindChecks b) := by
  unfold State.bindChecks
  extract_lets lv s1 s2 s3
  have h1 : s.Orderly s1 := .ite h.takeFault h
  have h2 : s.Orderly s2 := .ite h1.powerDown h1
  have h3 : s.Orderly s3 := h2.autoStart
  exact .ite h3.enqueue h3

theorem bind {b : BayId} {levels : Half} {ch : Chain} (h : s.Orderly t) : s.Orderly (t.bind b levels ch) := by
  unfold State.bind
  extract_lets s1 s2 s3 s4 s5 s6 s7
  have hseeded : s.Orderly s1 := (h.modifyBay (by rfl)).modifyBay (by rfl)
  have hbound : s.Orderly s4 := (hseeded.modifyBay (by rfl)).enqueue.bindPower
  exact hbound.huntBound.evalSweep.bindChecks.endHunt

/-! ## Transactions that begin and end (R113 to R122) -/

/-- A transaction begins with its first attempt. -/
theorem beginNext {n : BusId} (h : s.Orderly t) : s.Orderly (t.beginNext n) := by
  unfold State.beginNext
  dsimp only
  split
  · exact .ite (h.moveBus fun _ => ⟨Nat.le_refl 1, by decide⟩) h
  · exact h

theorem busIdle {n : BusId} (h : s.Orderly t) : s.Orderly (t.busIdle n) := h.moveBus fun _ => trivial

theorem endIgnored {n : BusId} {tx : Tx} (h : s.Orderly t) : s.Orderly (t.endIgnored n tx) :=
  h.busIdle.when (refl _).sweepLeave

theorem completeTx {n : BusId} {k : TxKind} {handed : State → Entry → State}
    (hh : ∀ (t : State) e, t.Orderly (handed t e)) (h : s.Orderly t) : s.Orderly (t.completeTx n k handed) := by
  unfold State.completeTx
  split
  · exact h
  · exact .ite (.ite h.endIgnored (h.busIdle.trans (hh _ _))) h

theorem exhausted {e : Entry} (h : s.Orderly t) : s.Orderly (t.exhausted e) := by
  unfold State.exhausted
  split
  · exact h.probeNotFound
  · exact h.setupFailed
  · exact h.depart.when (refl _).sweepLeave
  · exact h.depart

theorem countFailure {tx : Tx} (h : s.Orderly t) : s.Orderly (t.countFailure tx) :=
  .ite h (h.modifyBay (by rfl))

/-- An attempt number up to RETRY_LIMIT, which is at most 7, has a next one in range (R117, R120). -/
theorem nextAttempt {n : BusId} {tx : Tx} {a : Nat} {limit : BitVec 3} (h : s.Orderly t) (ha : a ≤ limit.toNat) :
    s.Orderly (t.modifyEngine n fun e => { e with bus := .active tx (a + 1) e.config.speed none }) :=
  h.moveBus fun _ => ⟨Nat.le_add_left 1 a, Nat.lt_of_le_of_lt ha limit.isLt⟩

theorem nack {n : BusId} (h : s.Orderly t) : s.Orderly (t.nack n) := by
  unfold State.nack
  split
  · exact h
  · refine .ite h.endIgnored ?_
    dsimp only
    split
    · next ha => exact h.countFailure.nextAttempt ha
    · exact h.countFailure.busIdle.exhausted

/-- A held transaction keeps its attempt number (R119). -/
theorem attemptTimeout {n : BusId} {tx : Tx} {a : Nat} (h : s.Orderly t)
    (ha : s.CountsBounded → 1 ≤ a ∧ a ≤ 8) : s.Orderly (t.attemptTimeout n tx a) :=
  h.countFailure.moveBus fun hs => ⟨(ha hs).1, (ha hs).2, Nat.zero_le 2⟩

theorem passSucceeds {n : BusId} {tx : Tx} {a : Nat} (h : s.Orderly t) : s.Orderly (t.passSucceeds n tx a) := by
  unfold State.passSucceeds
  refine .ite h.endIgnored ?_
  split
  · next ha => exact h.nextAttempt ha
  · exact h.busIdle.exhausted

/-- The count of failed passes stops below 3, where the bus fails (R120, R122). -/
theorem passFails {n : BusId} {tx : Tx} {a passes : Nat} (h : s.Orderly t)
    (ha : s.CountsBounded → 1 ≤ a ∧ a ≤ 8) : s.Orderly (t.passFails n tx a passes) := by
  unfold State.passFails
  split
  · next hp => exact h.moveBus fun hs => ⟨(ha hs).1, (ha hs).2, Nat.le_of_lt_succ hp⟩
  · exact h.busDown

/-! ## Bay commands (R51 to R69) -/

theorem await {b : BayId} {g : Option Half} (h : s.Orderly t) : s.Orderly (t.await b g) :=
  (h.modifyBay (by rfl)).awaitedTest

theorem outputEffect {b : BayId} {f : Image → Image} (h : s.Orderly t) : s.Orderly (t.outputEffect b f) :=
  h.updateTarget.await

theorem powerOnEffect {b : BayId} (h : s.Orderly t) : s.Orderly (t.powerOnEffect b) := by
  unfold State.powerOnEffect
  split
  · exact h.beginPowerUp
  · exact h.modifyBay (by rfl)
  · exact h.modifyBay (by rfl)
  · exact h

theorem overtakePowerOn {b : BayId} (h : s.Orderly t) : s.Orderly (t.overtakePowerOn b) :=
  .ite (h.modifyBay (by rfl)).completeCommand h

theorem powerOffEffect {b : BayId} {held : Bool} (h : s.Orderly t) : s.Orderly (t.powerOffEffect b held) := by
  unfold State.powerOffEffect
  split
  case h_1 | h_2 | h_3 => exact h.powerDown
  case h_4 => exact .ite h.completeCommand h
  case h_5 | h_6 => exact h.completeCommand
  case h_7 => exact h.await
  case h_8 => exact h

theorem firstEffect {b : BayId} {c : BayCommand} {args : CommandArgs} {held : Bool} (h : s.Orderly t) :
    s.Orderly (t.firstEffect b c args held) := by
  cases c with
  | powerOn => exact h.powerOnEffect
  | powerOff => exact h.powerOffEffect
  | setInd => exact h.outputEffect
  | lock => exact h.outputEffect
  | unlock => exact h.outputEffect
  | setAux => exact h.outputEffect
  | clearFault => exact h.await
  | refresh => exact h.requestRead

theorem takeCommand {b : BayId} {c : BayCommand} {tag : Byte} {args : CommandArgs} (h : s.Orderly t) :
    s.Orderly (t.takeCommand b c tag args) := by
  unfold State.takeCommand
  split
  · exact h.modifyBay (by rfl)
  · exact (h.overtakePowerOn.modifyBay (by rfl)).firstEffect

theorem takeCommandCode {b : BayId} {code : BitVec 4} {tag : Byte} {args : CommandArgs} (h : s.Orderly t) :
    s.Orderly (t.takeCommandCode b code tag args) := by
  unfold State.takeCommandCode
  split
  · exact h.modifyBay (by rfl)
  · exact h.takeCommand

/-! ## Configuration words (R4 to R8, R19, R21, R106, R160) -/

theorem ignoreCurrent {b : BayId} (h : s.Orderly t) : s.Orderly (t.ignoreCurrent b) := by
  unfold State.ignoreCurrent
  split
  · exact h
  · exact .ite (h.moveBus fun hs => (h.counts hs _).ignore) h

theorem release {b : BayId} (h : s.Orderly t) : s.Orderly (t.release b) := by
  unfold State.release
  dsimp only
  split
  case h_1 => exact h.ignoreCurrent.depart
  case h_2 | h_3 => exact (h.ignoreCurrent.modifyBay (by rfl)).dropEntries.enqueue.huntLeave.endHunt
  case h_4 => exact (h.ignoreCurrent.modifyBay (by rfl)).enqueue
  case h_5 => exact h.ignoreCurrent

theorem correctIndicator {b : BayId} (h : s.Orderly t) : s.Orderly (t.correctIndicator b) := by
  refine .ite ?_ h
  split
  · exact h
  · exact h.updateTarget

/-- A word with DEBOUNCE 0 is refused (R4). -/
theorem writeBayConfig {b : BayId} {w : Word} (h : s.Orderly t) : s.Orderly (t.writeBayConfig b w) := by
  unfold State.writeBayConfig
  dsimp only
  split
  · exact h.setConfigRefused
  · next hc =>
    simp only [Bool.or_eq_true, decide_eq_true_eq, not_or] at hc
    have hconfigured := h.configure (b := b) (f := fun x => { x with config := BayConfig.ofWord w }) fun _ => hc.1
    exact ((hconfigured.when (refl _).release).when (refl _).autoStart).when (refl _).correctIndicator

/-- A change to a profile that leaves its times positive. -/
theorem setProfile {p : ProfileId} {q : Profile} (h : s.Orderly t)
    (hq : (t.profiles[p]).rampTime ≠ 0 ∧ (t.profiles[p]).clkToRst ≠ 0 → q.rampTime ≠ 0 ∧ q.clkToRst ≠ 0) :
    s.Orderly { t with profiles := t.profiles.set p q } where
  lines := h.lines
  routes := h.routes
  times hs := by
    obtain ⟨hbays, hprofiles⟩ := h.times hs
    refine ⟨hbays, fun r => ?_⟩
    by_cases hr : p.val = r.val
    · have hset : (t.profiles.set p q)[r] = q := by simp [hr]
      rw [hset]
      exact hq (hprofiles p)
    · have hset : (t.profiles.set p q)[r] = t.profiles[r] := by simp [Vector.getElem_set_ne, hr]
      rw [hset]
      exact hprofiles r
  counts := h.counts

/-- Word B leaves RAMP_TIME and CLK_TO_RST alone, and a word A that would set one of them to 0 is refused (R19). -/
theorem writeProfile {p : ProfileId} {wordB : Bool} {w : Word} (h : s.Orderly t) :
    s.Orderly (t.writeProfile p wordB w) := by
  cases wordB with
  | true => exact h.setProfile id
  | false =>
    simp only [State.writeProfile, Bool.false_eq_true, if_false, Bool.not_false, Bool.true_and, Bool.or_eq_true,
      decide_eq_true_eq]
    split
    · exact h.setConfigRefused
    · next hq => exact h.setProfile fun _ => not_or.mp hq

theorem writeClassMap {w : Word} (h : s.Orderly t) : s.Orderly (t.writeClassMap w) := by
  unfold State.writeClassMap
  split
  · exact h.setConfigRefused
  · exact h.quiet rfl

theorem writeBusConfig {n : BusId} {w : Word} (h : s.Orderly t) : s.Orderly (t.writeBusConfig n w) := by
  unfold State.writeBusConfig
  split
  · exact h.setConfigRefused
  · exact (h.modifyEngine (by rfl)).when (refl _).busDown

end State.Orderly

/-- A route that conflicts with no claim leaves the table exclusive (R160). -/
theorem State.RoutesExclusive.set {s : State} (hs : s.RoutesExclusive) {i : SourceId} {r : Route}
    (hr : ¬ s.routeConflicts i r = true) : { s with routing := s.routing.set i r }.RoutesExclusive := by
  have hself : (s.routing.set i r)[i] = r := by simp
  have hother : ∀ j : SourceId, j ≠ i → (s.routing.set i r)[j] = s.routing[j] := fun j hj => by
    have hval : i.val ≠ j.val := fun h => hj (Fin.ext h.symm)
    simp [Vector.getElem_set_ne, hval]
  rw [State.routeConflicts_iff] at hr
  intro j k hjk hexcl hline
  dsimp only at hexcl hline ⊢
  by_cases hj : j = i
  · subst hj
    rw [hself] at hexcl hline ⊢
    rw [hother k hjk.symm]
    exact fun hsame => hr ⟨k, hjk.symm, hline, hsame, .inl hexcl⟩
  · rw [hother j hj] at hexcl hline ⊢
    by_cases hk : k = i
    · subst hk
      rw [hself]
      exact fun hsame => hr ⟨j, hj, hsame ▸ hline, hsame.symm, .inr hexcl⟩
    · rw [hother k hk]
      exact hs j k hjk hexcl hline

namespace State.Orderly

variable {s t : State}

theorem writeRoute {i : SourceId} {w : Word} (h : s.Orderly t) : s.Orderly (t.writeRoute i w) := by
  cases hw : Route.ofWord w with
  | none => rw [t.writeRoute_undefined i hw]; exact h.setConfigRefused
  | some r =>
    by_cases hc : t.routeConflicts i r = true
    · rw [t.writeRoute_conflict hw hc]; exact h.quiet rfl
    · rw [t.writeRoute_taken hw hc]
      exact ⟨h.lines, fun hs => (h.routes hs).set hc, h.times, h.counts⟩

/-! ## Global commands, start-up and time (R18, R123, R131, R141, R176) -/

theorem takeHunt {m : BusMask} {tag : Byte} (h : s.Orderly t) : s.Orderly (t.takeHunt m tag) :=
  h.answerGlobal.when (foldl (fun t _ => (refl t).startHunt) (refl _) _)

theorem takeRestart {m : BusMask} {tag : Byte} (h : s.Orderly t) : s.Orderly (t.takeRestart m tag) :=
  h.answerGlobal.when (foldl (fun t _ => (refl t).busDown.startHunt) (refl _) _)

theorem takeGlobal {code : BitVec 4} {m : BusMask} {tag : Byte} (h : s.Orderly t) :
    s.Orderly (t.takeGlobal code m tag) :=
  .ite h.takeHunt (.ite h.takeRestart h.answerGlobal)

theorem startUp (h : s.Orderly t) : s.Orderly t.startUp := by
  unfold State.startUp
  exact ((h.modifyEngine (by rfl)).modifyEngine (by rfl)).startHunt.startHunt

theorem tick (h : s.Orderly t) : s.Orderly t.tick where
  lines := h.lines
  routes := h.routes
  times hs := by
    obtain ⟨hbays, hprofiles⟩ := h.times hs
    exact ⟨fun b => by rw [State.tick_bay]; exact hbays b, hprofiles⟩
  counts hs n := by
    rw [State.tick_engine]
    exact (h.counts hs n).age

end State.Orderly

end Sys2Proof.Machine

/-! # Every step keeps routes, lines, times and counts in range (R4, R19, R107, R160, R164) -/

namespace Sys2Proof.Machine

/-! ## Commands that move no line themselves (R165; log entry 21) -/

/-- The answer of an event that is orderly up to its end, where the Router is told of its appends. -/
def State.AnswersOrderly (s : State) (o : Host.Outcome State Fault Refusal) : Prop :=
  ∃ t, o = .next (s.noticeAppends t) ∧ s.Orderly t

/-- Each line takes one cause exactly when its count has risen (R165). -/
theorem State.Orderly.noticeAppends_line {s t : State} (h : s.Orderly t) (k : LineId) :
    (s.noticeAppends t).lines[k] =
      if s.events.lineCount (some k) < t.events.lineCount (some k) then (s.lines[k]).cause else s.lines[k] := by
  rw [State.noticeAppends_line]
  simp only [h.lines]

theorem State.Orderly.answers {s t : State} (h : s.Orderly t) (he : t.events = s.events) :
    s.AnswersOrderly (.next t) :=
  ⟨t, by rw [State.noticeAppends_of_events s t he], h⟩

theorem State.Orderly.event {s t : State} (h : s.Orderly t) : s.AnswersOrderly (s.event t) := by
  cases hlow : s.resetLow with
  | true => rw [s.event_held t hlow]; exact (refl s).answers rfl
  | false => rw [s.event_taken t hlow]; exact ⟨t, rfl, h⟩

theorem State.Orderly.wordEvent {s : State} {a : Addr} {owner : State → State}
    (h : ∀ t : State, t.Orderly (owner t)) : s.AnswersOrderly (s.wordEvent a owner) := by
  have hword : s.Orderly (s.afterWord a) := (refl s).quiet rfl
  cases ht : s.takesWord a with
  | true => rw [s.wordEvent_taken a owner ht]; exact ⟨_, rfl, hword.trans (h _)⟩
  | false => rw [s.wordEvent_ignored a owner ht]; exact (refl s).answers rfl

theorem wordOwner_orderly {c : Instr} (hc : movesLinesItself c = false) (t : State) : t.Orderly (wordOwner c t) := by
  have hself := State.Orderly.refl t
  cases c with
  | registerWrite | softReset | lineControlWrite | takeLineWindow | takeAnyWindow => cases hc
  | bayConfigurationWrite b w => exact hself.writeBayConfig
  | profileWrite p wordB w => exact hself.writeProfile
  | classMapWrite w => exact hself.writeClassMap
  | busConfigurationWrite n w => exact hself.writeBusConfig
  | routingEntryWrite i w => exact hself.writeRoute
  | hunt m tag => exact hself.takeHunt
  | busRestart m tag => exact hself.takeRestart
  | powerOn b tag args => exact hself.takeCommand
  | powerOff b tag args => exact hself.takeCommand
  | setInd b tag args => exact hself.takeCommand
  | lock b tag args => exact hself.takeCommand
  | unlock b tag args => exact hself.takeCommand
  | setAux b tag args => exact hself.takeCommand
  | clearFault b tag args => exact hself.takeCommand
  | refresh b tag args => exact hself.takeCommand
  | undefinedBayCommand b code tag args => exact hself.takeCommandCode
  | undefinedGlobalCommand code m tag => exact hself.takeGlobal
  | _ => exact hself.quiet rfl

theorem exec_orderly_of_word {c : Instr} (hc : movesLinesItself c = false) {a : Addr} (h : c.wordAddr = some a)
    (s : State) : s.AnswersOrderly (exec c s) := by
  rcases exec_of_wordAddr h s with hx | hx
  · rw [hx]; exact State.Orderly.wordEvent (wordOwner_orderly hc)
  · rw [hx]; exact (State.Orderly.refl s).answers rfl

theorem State.frameStart_orderly (s : State) : s.Orderly s.frameStart := by
  unfold State.frameStart
  split
  · exact .ite ((State.Orderly.refl s).quiet rfl) ((State.Orderly.refl s).quiet rfl)
  · exact .refl s

theorem State.frameEnd_orderly (s : State) (bits : List Bool) : s.Orderly (s.frameEnd bits) := by
  unfold State.frameEnd
  exact .ite ((State.Orderly.refl s).quiet rfl) ((State.Orderly.refl s).quiet rfl)

theorem execXalertAsserted_orderly (n : BusId) (s : State) : s.AnswersOrderly (execXalertAsserted n s) := by
  have hself := State.Orderly.refl s
  have hset : s.Orderly (s.setAlert n true) := hself.quiet rfl
  unfold execXalertAsserted
  split
  · exact hself.answers rfl
  · split
    · exact hset.answers rfl
    · obtain ⟨t, ht, hsweep⟩ := (State.Orderly.refl (s.setAlert n true)).evalSweep (n := n) |>.event
      exact ⟨t, ht, hset.trans hsweep⟩

theorem execSeedingReadComplete_orderly (n : BusId) (input output direction : Half) (s : State) :
    s.AnswersOrderly (execSeedingReadComplete n input output direction s) := by
  refine ((State.Orderly.refl s).completeTx fun t e => ?_).event
  split
  · exact .refl t
  · exact (State.Orderly.refl t).bind

theorem execAttemptDataLineLow_orderly (n : BusId) (s : State) : s.AnswersOrderly (execAttemptDataLineLow n s) := by
  refine State.Orderly.event ?_
  split
  · exact .refl s
  · next hw => exact (State.Orderly.refl s).attemptTimeout fun hs => (hs n).of_onWire hw

theorem execClockStretchTimeout_orderly (n : BusId) (s : State) : s.AnswersOrderly (execClockStretchTimeout n s) := by
  refine State.Orderly.event ?_
  split
  · next hb =>
    refine (State.Orderly.refl s).attemptTimeout fun hs => ?_
    have hcounts := hs n
    rw [hb] at hcounts
    exact hcounts
  · next hb =>
    refine (State.Orderly.refl s).passFails fun hs => ?_
    have hcounts := hs n
    rw [hb] at hcounts
    exact ⟨hcounts.1, hcounts.2.1⟩
  · exact .refl s

theorem execRecoveryPassEnd_orderly (n : BusId) (dataHigh : Bool) (s : State) :
    s.AnswersOrderly (execRecoveryPassEnd n dataHigh s) := by
  refine State.Orderly.event ?_
  split
  · next hb =>
    refine .ite (State.Orderly.refl s).passSucceeds ((State.Orderly.refl s).passFails fun hs => ?_)
    have hcounts := hs n
    rw [hb] at hcounts
    exact ⟨hcounts.1, hcounts.2.1⟩
  · exact .refl s

/-- A command that is no reset, line control word, take or phase end moves no line before the Router is told. -/
theorem exec_orderly {c : Instr} (hc : movesLinesItself c = false) (s : State) : s.AnswersOrderly (exec c s) := by
  have hself := State.Orderly.refl s
  cases c with
  | resetNAssert | startUp | pulseHighEnd | pulseGapEnd => cases hc
  | timebaseTick => exact hself.tick.event
  | pcsNFall => exact s.frameStart_orderly.answers s.frameStart_events
  | pcsNRise bits => exact (s.frameEnd_orderly bits).answers (s.frameEnd_events bits)
  | rampTimeExpiry b => exact State.Orderly.event (.ite hself.endOfRamp hself)
  | rampTimeout b => exact State.Orderly.event (.ite hself.takeFault hself)
  | clkToRstExpiry b => exact State.Orderly.event (.ite hself.releaseReset hself)
  | drainStepExpiry b => exact State.Orderly.event (.ite (hself.modifyBay (by rfl)).drainCompute hself)
  | cooldownExpiry b => exact State.Orderly.event (.ite (hself.modifyBay (by rfl)).cooldownEnds hself)
  | debounceExpiry b => exact State.Orderly.event (.ite hself.confirmCandidate hself)
  | pollTimerExpiry n => exact State.Orderly.event (.ite (hself.pollReads.modifyEngine (by rfl)) hself)
  | xalertAsserted n => exact execXalertAsserted_orderly n s
  | xalertDeasserted n => exact State.Orderly.answers (t := s.setAlert n false) (hself.quiet rfl) rfl
  | beginTransaction n => exact hself.beginNext.event
  | outputWriteComplete n => exact (hself.completeTx fun t _ => (State.Orderly.refl t).writeDone).event
  | inputReadComplete n i o d => exact (hself.completeTx fun t _ => (State.Orderly.refl t).readDone).event
  | probeAcknowledged n => exact (hself.completeTx fun t _ => (State.Orderly.refl t).probeFound).event
  | identReadComplete n v => exact (hself.completeTx fun t _ => (State.Orderly.refl t).identJudged).event
  | setupReadComplete n o d k r => exact (hself.completeTx fun t _ => (State.Orderly.refl t).readbackJudged).event
  | forceSafeWriteComplete n => exact (hself.completeTx fun t _ => (State.Orderly.refl t).forceSafeDone).event
  | seedingReadComplete n i o d => exact execSeedingReadComplete_orderly n i o d s
  | attemptNack n => exact hself.nack.event
  | attemptDataLineLow n => exact execAttemptDataLineLow_orderly n s
  | clockStretchDetected n => exact (hself.moveBus fun hs => (hs n).stretchStart).event
  | clockStretchRelease n => exact (hself.moveBus fun hs => (hs n).stretchStop).event
  | clockStretchTimeout n => exact execClockStretchTimeout_orderly n s
  | recoveryPassEnd n dataHigh => exact execRecoveryPassEnd_orderly n dataHigh s
  | _ => exact exec_orderly_of_word hc rfl s

/-! ## The phase ends (R164; log entry 4) -/

/-- The end of a pulse phase tells no record. -/
theorem State.event_modifyLine {s : State} (k : LineId) (f : Line → Line) (h : s.resetLow = false) :
    s.event (s.modifyLine k f) = .next (s.modifyLine k f) :=
  s.event_quiet _ h rfl

theorem State.modifyLine_congr {s : State} {k : LineId} {f g : Line → Line} (h : f s.lines[k] = g s.lines[k]) :
    s.modifyLine k f = s.modifyLine k g := by
  unfold State.modifyLine
  rw [h]

/-- Settles O26: a phase end acts on its line alone, and any other command leaves the lines to the Router. -/
theorem pulsePhases : Obligations.PulsePhases := by
  refine ⟨fun k s hlow => ⟨fun hphase => ?_, fun hphase => ?_⟩, fun c s hc => ?_⟩
  · refine (State.event_modifyLine k _ hlow).trans (congrArg _ (State.modifyLine_congr ?_))
    exact if_pos hphase
  · refine (State.event_modifyLine k _ hlow).trans (congrArg _ (State.modifyLine_congr ?_))
    refine (if_pos hphase).trans ?_
    simp only [Line.pulsing, Bool.and_eq_true, decide_eq_true_eq, and_assoc]
  · obtain ⟨t, ht, horderly⟩ := exec_orderly hc s
    exact ⟨_, ht, horderly.noticeAppends_line⟩

/-! ## Settled lines (R164) -/

theorem Line.Settled.cause {l : Line} (h : l.Settled) : l.cause.Settled := by
  unfold Line.cause
  split
  · next hp =>
    have hpulsing : ∀ {m : Line}, m.pulsing = l.pulsing → m.phase ≠ .quiet → m.Settled := fun hm hq =>
      ⟨fun hn => absurd (hm.symm.trans hn) (by simp [hp]), fun hq' => absurd hq' hq⟩
    split
    · exact hpulsing rfl nofun
    · next hphase => exact hpulsing rfl (by simp [hphase])
    · next hphase => exact hpulsing rfl (by simp [hphase])
  · exact h

/-- A line in a phase other than QUIET is pulsing. -/
theorem Line.Settled.pulsing {l : Line} (h : l.Settled) (hp : l.phase ≠ .quiet) : l.pulsing = true := by
  by_contra hn
  exact hp (h.1 (Bool.eq_false_iff.mpr hn))

theorem Line.Settled.highEnd {l : Line} (h : l.Settled) : l.highEnd.Settled := by
  unfold Line.highEnd
  split
  · next hhigh =>
    have hpulsing : l.pulsing = true := h.pulsing (by simp [hhigh])
    split
    · exact ⟨fun hn => absurd (hpulsing.symm.trans hn) nofun, nofun⟩
    · next howed => exact ⟨fun _ => rfl, fun _ => Bool.eq_false_iff.mpr howed⟩
  · exact h

theorem Line.Settled.gapEnd {l : Line} (h : l.Settled) (count : Nat) : (l.gapEnd count).Settled := by
  unfold Line.gapEnd
  split
  · refine ⟨fun hn => ?_, fun _ => rfl⟩
    have hstill : l.pulsing = false := hn
    simp [hstill]
  · exact h

/-- A line control word settles the line by the row of R166 that applies. -/
theorem Line.Settled.written {l : Line} (h : l.Settled) (w : Word) (count : Nat) : (l.written w count).Settled := by
  have hpulsing := l.written_pulsing w count
  cases hw : (bitOf w 0 && bitOf w 1) with
  | false =>
    obtain ⟨hphase, howed⟩ := l.written_still count hw
    exact ⟨fun _ => hphase, fun _ => howed⟩
  | true =>
    refine ⟨fun hn => absurd ((hpulsing.trans hw).symm.trans hn) nofun, fun hq => ?_⟩
    cases hl : l.pulsing with
    | true =>
      obtain ⟨hphase, howed⟩ := Line.written_stays count hw hl
      exact howed.trans (h.2 (hphase.symm.trans hq))
    | false => exact (Line.written_starts count hw hl).1

theorem State.LinesSettled.modifyLine {s : State} (hs : s.LinesSettled) {k : LineId} {f : Line → Line}
    (hf : (s.lines[k]).Settled → (f s.lines[k]).Settled) : (s.modifyLine k f).LinesSettled := by
  intro j
  by_cases hj : j = k
  · subst hj
    rw [State.modifyLine_line_self]
    exact hf (hs j)
  · rw [State.modifyLine_line_ne _ _ _ _ hj]
    exact hs j

/-- The Router's causes keep the lines settled. -/
theorem State.LinesSettled.noticeAppends {t : State} (ht : t.LinesSettled) (s : State) :
    (s.noticeAppends t).LinesSettled := by
  intro k
  rw [State.noticeAppends_line]
  split
  · exact (ht k).cause
  · exact ht k

/-! ## Commands and the four invariants -/

/-- From `s` to `t` the routing table, the lines, the configured times and the engines' counts stay in order. -/
structure State.Sound (s t : State) : Prop where
  lines : s.LinesSettled → t.LinesSettled
  routes : s.RoutesExclusive → t.RoutesExclusive
  times : s.TimesPositive → t.TimesPositive
  counts : s.CountsBounded → t.CountsBounded

theorem State.Orderly.sound {s t : State} (h : s.Orderly t) : s.Sound t where
  lines hs := by simpa only [State.LinesSettled, h.lines] using hs
  routes := h.routes
  times := h.times
  counts := h.counts

/-- A change to none of the fields that the invariants read. -/
theorem State.Sound.of_frame {s t : State}
    (ht : (t.lines, t.routing, t.bays, t.engines, t.profiles) = (s.lines, s.routing, s.bays, s.engines, s.profiles)) :
    s.Sound t :=
  ((State.Orderly.refl s).quiet ht).sound

theorem State.Sound.refl (s : State) : s.Sound s := (State.Orderly.refl s).sound

theorem State.Sound.trans {s t u : State} (h : s.Sound t) (h' : t.Sound u) : s.Sound u :=
  ⟨h'.lines ∘ h.lines, h'.routes ∘ h.routes, h'.times ∘ h.times, h'.counts ∘ h.counts⟩

/-- A change to one line that keeps it settled. -/
theorem State.modifyLine_sound {s : State} {k : LineId} {f : Line → Line}
    (hf : (s.lines[k]).Settled → (f s.lines[k]).Settled) : s.Sound (s.modifyLine k f) :=
  ⟨fun hs => hs.modifyLine hf, id, id, id⟩

theorem State.Sound.noticeAppends {s t : State} (h : s.Sound t) (u : State) : s.Sound (u.noticeAppends t) :=
  ⟨fun hs => (h.lines hs).noticeAppends u, h.routes, h.times, h.counts⟩

/-- Every block at its reset values is in order (section 1.9). -/
theorem State.resetBlocks_sound (s : State) (low : Bool) (f : Frame) : s.Sound (s.resetBlocks low f) := by
  obtain ⟨-, hroutes, hlines, htimes, hcounts, -⟩ := invariantsAtReset
  exact ⟨fun _ => hlines, fun _ => hroutes, fun _ => htimes, fun _ => hcounts⟩

theorem State.resetBlocks_startUp_sound (s : State) (low : Bool) (f : Frame) :
    s.Sound (s.resetBlocks low f).startUp :=
  (s.resetBlocks_sound low f).trans (State.Orderly.refl _).startUp.sound

theorem State.writeControl_sound (s : State) (w : Word) : s.Sound (s.writeControl w) := by
  unfold State.writeControl
  split
  · exact s.resetBlocks_startUp_sound _ _
  · exact .refl s

theorem State.writeLine_sound (s : State) (k : LineId) (w : Word) : s.Sound (s.writeLine k w) :=
  State.modifyLine_sound fun hl => hl.written w _

theorem State.takeRecord_sound (s : State) (win : Fin 5) (wants : Record → Bool) :
    s.Sound (s.takeRecord win wants) := by
  have htaken : s.Sound { s with events := s.events.take win wants } := .of_frame rfl
  obtain ⟨k, -, -, hcause⟩ | ⟨-, hquiet⟩ := s.takeRecord_cases win wants
  · rw [hcause]; exact htaken.trans (State.modifyLine_sound Line.Settled.cause)
  · rw [hquiet]; exact htaken

theorem State.writeTake_sound (s : State) (w : Word) : s.Sound (s.writeTake w) := by
  unfold State.writeTake
  dsimp only
  split
  · exact s.takeRecord_sound _ _
  · split
    · exact s.takeRecord_sound _ _
    · exact (State.Orderly.refl s).setConfigRefused.sound

theorem State.writeReg_sound (s : State) (r : Reg) (w : Word) : s.Sound (s.writeReg r w) := by
  have hself := State.Orderly.refl s
  have hport : s.Sound s.setReadOnlyWrite := .of_frame rfl
  cases r with
  | globalControl => exact s.writeControl_sound w
  | globalCommand => exact hself.takeGlobal.sound
  | globalStatus => exact .of_frame rfl
  | portStatus => exact .of_frame rfl
  | busConfig n => exact hself.writeBusConfig.sound
  | lineControl k => exact s.writeLine_sound k w
  | take => exact s.writeTake_sound w
  | queueStatus => exact .of_frame rfl
  | routing i => exact hself.writeRoute.sound
  | profileA p => exact hself.writeProfile.sound
  | profileB p => exact State.Orderly.sound (t := s.writeProfile p true w) hself.writeProfile
  | classMap => exact hself.writeClassMap.sound
  | bay b word =>
    cases word with
    | config => exact hself.writeBayConfig.sound
    | command => exact hself.takeCommandCode.sound
    | _ => exact hport
  | _ => exact hport

theorem State.writeWord_sound (s : State) (a : Addr) (w : Word) : s.Sound (s.writeWord a w) := by
  unfold State.writeWord
  split
  · exact .of_frame rfl
  · exact s.writeReg_sound _ w

/-- The answer of a command keeps the four invariants. -/
def State.AnswersSound (s : State) (o : Host.Outcome State Fault Refusal) : Prop := ∀ t, o = .next t → s.Sound t

theorem State.Sound.next {s t : State} (h : s.Sound t) : s.AnswersSound (.next t) := by
  rintro u ⟨⟩; exact h

theorem State.AnswersOrderly.sound {s : State} {o : Host.Outcome State Fault Refusal} (h : s.AnswersOrderly o) :
    s.AnswersSound o := by
  obtain ⟨t, rfl, horderly⟩ := h
  exact (horderly.sound.noticeAppends s).next

theorem State.Sound.event {s t : State} (h : s.Sound t) : s.AnswersSound (s.event t) := by
  cases hlow : s.resetLow with
  | true => rw [s.event_held t hlow]; exact (State.Sound.refl s).next
  | false => rw [s.event_taken t hlow]; exact (h.noticeAppends s).next

theorem State.wordEvent_sound {s : State} {a : Addr} {owner : State → State} (h : ∀ t : State, t.Sound (owner t)) :
    s.AnswersSound (s.wordEvent a owner) := by
  have hword : s.Sound (s.afterWord a) := .of_frame rfl
  cases ht : s.takesWord a with
  | true => rw [s.wordEvent_taken a owner ht]; exact ((hword.trans (h _)).noticeAppends s).next
  | false => rw [s.wordEvent_ignored a owner ht]; exact (State.Sound.refl s).next

theorem execStartUp_sound (s : State) : s.AnswersSound (execStartUp s) := by
  unfold execStartUp
  split
  · exact ((s.resetBlocks_startUp_sound _ _).noticeAppends _).next
  · exact (State.Sound.refl s).next

theorem execSoftReset_sound (w : Word) (s : State) : s.AnswersSound (execSoftReset w s) :=
  State.wordEvent_sound fun t => t.writeControl_sound w

theorem execRegisterWrite_sound (a : Addr) (w : Word) (s : State) : s.AnswersSound (execRegisterWrite a w s) := by
  unfold execRegisterWrite
  split
  · exact State.wordEvent_sound fun t => t.writeWord_sound a w
  · exact (State.Sound.refl s).next

/-- Every command keeps the four invariants: those that move lines themselves one by one, the others by what they leave
to the Router. -/
theorem exec_sound (c : Instr) (s : State) : s.AnswersSound (exec c s) := by
  cases hc : movesLinesItself c with
  | false => exact (exec_orderly hc s).sound
  | true =>
    cases c with
    | resetNAssert => exact (s.resetBlocks_sound _ _).next
    | startUp => exact execStartUp_sound s
    | softReset w => exact execSoftReset_sound w s
    | registerWrite a w => exact execRegisterWrite_sound a w s
    | lineControlWrite k w => exact State.wordEvent_sound fun t => t.writeLine_sound k w
    | takeLineWindow w => exact State.wordEvent_sound fun t => t.writeTake_sound w
    | takeAnyWindow w => exact State.wordEvent_sound fun t => t.writeTake_sound w
    | pulseHighEnd k => exact (State.modifyLine_sound Line.Settled.highEnd).event
    | pulseGapEnd k => exact (State.modifyLine_sound fun hl => hl.gapEnd _).event
    | _ => cases hc

/-- Every step keeps the four invariants: taking a command from the queue touches none of them. -/
theorem step_sound {s t : State} (h : step s = .next t) : s.Sound t := by
  unfold step at h
  split at h
  · cases h; exact .refl s
  · next c rest _ =>
    have hpop : s.Sound { s with pending := rest } := .of_frame rfl
    exact hpop.trans (exec_sound c _ t h)

/-- Settles O56: the four invariants are what `step_sound` says. -/
theorem stepKeepsRoutingAndRanges : Obligations.StepKeepsRoutingAndRanges :=
  ⟨fun _ _ hs h => (step_sound h).routes hs, fun _ _ hs h => (step_sound h).lines hs,
    fun _ _ htimes hcounts h => ⟨(step_sound h).times htimes, (step_sound h).counts hcounts⟩⟩

end Sys2Proof.Machine
